-- ==== Sys2Proof/Word.lean ====
section
/-! DEFINITION. The word types of the BCB (00_scope.md R13): sensor register bytes, the 32-bit micro-instruction
and the 64-bit pattern of a binary64 number. -/

namespace Sys2Proof

/-- A sensor register value or address, a host command code, a field of a micro-instruction (R13). -/
abbrev Byte := BitVec 8

/-- A micro-instruction (R13, R145). -/
abbrev MicroWord := BitVec 32

/-- The bit pattern of an IEEE 754 binary64 number: a physical output (R13, R16). -/
abbrev F64 := BitVec 64

end Sys2Proof
end

