-- ==== Sys2Proof/Config.lean ====
section
/-! DEFINITION. What an implementation of the BCB fixes (00_scope.md R8 to R12: the configuration record
`BcbConfig`), and the free values: constants with no body, of which nothing can be evaluated or proved. -/

namespace Sys2Proof

/-- COMP_VARIANT (R12). -/
inductive CompVariant where
  | double
  | int64p
  | int32p
deriving DecidableEq, Repr

/-- TFINE_ROUNDING (R12, R246). -/
inductive TfineRounding where
  | floor
  | trunc
deriving DecidableEq, Repr

/-- P1_SIGNEDNESS (R12, R203). -/
inductive Signedness where
  | unsigned
  | signed
deriving DecidableEq, Repr

/-- H45_LAYOUT (R12, R136, R137). -/
inductive H45Layout where
  | nibble12
  | word16
deriving DecidableEq, Repr

/-- OSRS_CODE, the oversampling code for x16 (R10, R121). -/
def osrsX16 : Byte := 0x05

/-- A `ctrl_meas` value from its three fields: `osrs_t` in bits 7:5, `osrs_p` in bits 4:2, `mode` in bits 1:0
(10_state.md R54). -/
def ctrlMeasOf (osrsT osrsP : BitVec 3) (mode : BitVec 2) : Byte := osrsT ++ osrsP ++ mode

/-- A `ctrl_hum` value: `osrs_h` in bits 2:0, bits 7:3 zero (10_state.md R52, R126). -/
def ctrlHumOf (osrsH : BitVec 3) : Byte := (0 : BitVec 5) ++ osrsH

/-- A `config` value: `t_sb` in bits 7:5, `filter` in bits 4:2, bit 1 zero, `spi3w_en` in bit 0
(10_state.md R55, R126). -/
def configOf (tSb filter : BitVec 3) (spi3w : BitVec 1) : Byte := tSb ++ filter ++ (0 : BitVec 1) ++ spi3w

/-- The default of a `ctrl_meas` parameter, `OSRS_CODE<<5 | OSRS_CODE<<2 | mode`, on bytes (R10). -/
def ctrlMeasDefault (osrs mode : Byte) : Byte := (osrs <<< 5) ||| (osrs <<< 2) ||| mode

/-- SLAVE_ADDR: OPEN (R9). A free value: the spec names no address. -/
opaque Config.slaveAddr : BitVec 7

/-- POLL_INTERVAL in whole milliseconds: OPEN, positive (R11). A free value. -/
opaque Config.pollInterval : ℕ+

/-- POLL_LIMIT: OPEN (R11); `none` is INF, otherwise a positive count of status reads. A free value. -/
opaque Config.pollLimit : Option ℕ+

/-- The configuration record `BcbConfig` (R8), each field with the default of R9 to R12. -/
structure BcbConfig where
  slaveAddr : BitVec 7 := Config.slaveAddr
  regChipId : Byte := 0xD0
  chipIdExpected : Byte := 0x60
  regSoftReset : Byte := 0xE0
  softResetCmd : Byte := 0xB6
  regStatus : Byte := 0xF3
  regCtrlHum : Byte := 0xF2
  regCtrlMeas : Byte := 0xF4
  regConfig : Byte := 0xF5
  regData : Byte := 0xF7
  regCal1 : Byte := 0x88
  regCal2 : Byte := 0xE1
  cal1Len : Byte := 26
  cal2Len : Byte := 7
  dataLen : Byte := 8
  osrsCode : Byte := osrsX16
  configMode : Byte := 0x00
  ctrlHumValue : Byte := osrsCode
  ctrlMeasConfigValue : Byte := ctrlMeasDefault osrsCode configMode
  ctrlMeasForcedValue : Byte := ctrlMeasDefault osrsCode 0x01
  configValue : Byte := 0x00
  resetBusyMask : Byte := 0x01
  measBusyMask : Byte := 0x08
  primingCount : Byte := 2
  pollInterval : ℕ+ := Config.pollInterval
  pollLimit : Option ℕ+ := Config.pollLimit
  compVariant : CompVariant := .double
  tfineRounding : TfineRounding := .floor
  p1Signedness : Signedness := .unsigned
  h45Layout : H45Layout := .nibble12
  observer : Bool := false
deriving DecidableEq, Repr

/-- The record with every parameter at its default (R9 to R12). -/
def BcbConfig.defaults : BcbConfig := {}

/-- One answer of the bus oracle (20_memory.md R89). A transfer uses the part that concerns it: Bind `bindOk`,
a write transfer `accepted` (at most the bytes sent), a read transfer `bytes` (at most the bytes asked for). -/
structure BusAnswer where
  bindOk : Bool
  accepted : Nat
  bytes : List Byte
deriving DecidableEq, Repr, Inhabited

/-- The bus oracle (R89): a FREE VALUE for every transfer that no fixture answers, applied to the counter
`Bus.draws` of State. Nothing constrains it. -/
opaque Config.busOracle : Nat → BusAnswer

/-- FREE VALUE: a byte the sensor fixture returns where the spec leaves it open (reserved registers, reserved
status bits, a conversion's result, the pointer after 0xFF, whether a config write is ignored). -/
opaque Config.freeByte : Nat → Byte

/-- FREE VALUE: sign and payload of a NaN result of an invalid binary64 operation. The datapath reaches none
(R247, R252, R262). -/
opaque Config.freeNaN : F64

/-- FREE VALUE: floor or truncation of a number that is not finite. The datapath reaches none (R247). -/
opaque Config.nonFiniteToInt : F64 → Int

end Sys2Proof
end

