-- ==== Sys2Proof/Syntax.lean ====
section
/-! DEFINITION. The instructions of the BCB: one constructor per row of spec/opcode_table.json, over the three
instruction sets of 00_scope.md R3 (host commands, wire transactions, micro-operations), and the three
encoded forms an instruction has (30_encoding.md). -/

namespace Sys2Proof

/-- The receive buffer an RDB names in its C field (30_encoding.md R146; 10_state.md R34). -/
inductive BufId where
  | buf1
  | buf2
  | bufd
deriving DecidableEq, Repr

/-- The life-cycle states of the BCB (10_state.md R42). -/
inductive LifeState where
  | uninit
  | resetting
  | configuring
  | ready
  | measuring
deriving DecidableEq, Repr

/-- The instructions, one constructor per row of the opcode table. -/
inductive Instr where
  /-- RESET, host code 0x01 (R321). -/
  | reset
  /-- REFRESH, host code 0x02 (R322). -/
  | refresh
  /-- READ_T, host code 0x03 (R323). -/
  | readT
  /-- READ_P, host code 0x04 (R324). -/
  | readP
  /-- READ_H, host code 0x05 (R325). -/
  | readH
  /-- WriteRegister(a, v) (R161). -/
  | writeRegister (a v : Byte)
  /-- ReadRegister(a) (R162). -/
  | readRegister (a : Byte)
  /-- ReadBlock(a, n) (R163). -/
  | readBlock (a : Byte) (n : Nat)
  /-- Bind(SLAVE_ADDR), the adapter operation (R164). -/
  | bindSession
  /-- RD_CHIP_ID (R166). -/
  | rdChipId
  /-- WR_SOFT_RESET (R167). -/
  | wrSoftReset
  /-- RD_STATUS (R168). -/
  | rdStatus
  /-- RD_CAL1 (R169). -/
  | rdCal1
  /-- RD_CAL2 (R170). -/
  | rdCal2
  /-- WR_CTRL_HUM (R171). -/
  | wrCtrlHum
  /-- WR_CTRL_MEAS_CFG (R172). -/
  | wrCtrlMeasCfg
  /-- WR_CONFIG (R173). -/
  | wrConfig
  /-- WR_CTRL_MEAS_FORCED (R174). -/
  | wrCtrlMeasForced
  /-- RD_DATA (R175). -/
  | rdData
  /-- END, OP 0x00 (R331). -/
  | endCmd
  /-- BIND, OP 0x01 (R181). -/
  | bind
  /-- WR a, v, OP 0x02 (R178). -/
  | wr (a v : Byte)
  /-- RD a, OP 0x03 (R179). -/
  | rd (a : Byte)
  /-- RDB a, n, buf, OP 0x04 (R180). -/
  | rdb (a n : Byte) (buf : BufId)
  /-- CHKID v, OP 0x05 (R341). -/
  | chkid (v : Byte)
  /-- PINIT, OP 0x06 (R336). -/
  | pinit
  /-- PWAIT, OP 0x07 (R337). -/
  | pwait
  /-- BBUSY m, L, OP 0x08 (R335). -/
  | bbusy (m l : Byte)
  /-- CALL L, OP 0x09 (R332). -/
  | call (l : Byte)
  /-- RET, OP 0x0A (R333). -/
  | ret
  /-- SETST s, OP 0x0B (R342). -/
  | setst (st : LifeState)
  /-- PCAL, OP 0x10 (R200). -/
  | pcal
  /-- CHKRSV, OP 0x11 (R241). -/
  | chkrsv
  /-- DECODE, OP 0x12 (R240). -/
  | decode
  /-- COMPT, OP 0x13 (R245, R281). -/
  | compt
  /-- COMPP, OP 0x14 (R250, R285, R290). -/
  | compp
  /-- COMPH, OP 0x15 (R260, R295). -/
  | comph
  /-- COMMIT, OP 0x16 (R343). -/
  | commit
deriving DecidableEq, Repr

/-- One item of a wire transaction as the bus engine issues it (R110 to R115): the adapter's Bind, a write
transfer of the bytes listed, or a read transfer of a byte count. -/
inductive Frame where
  /-- The adapter operation Bind: no byte on the bus (R115). -/
  | bind
  /-- A write transfer of these bytes, first byte first (R111, R112). -/
  | write (bytes : List Byte)
  /-- A read transfer of `n` bytes (R113). -/
  | read (n : Nat)
deriving DecidableEq, Repr

/-- The encoded form of an instruction, by the interface it is read from (30_encoding.md). -/
inductive Code where
  /-- A host command code on the command port (R140). -/
  | host (code : Byte)
  /-- The frames of one wire transaction (R114). -/
  | wire (frames : List Frame)
  /-- A micro-ROM word in format U (R145). -/
  | micro (word : MicroWord)
deriving DecidableEq, Repr

end Sys2Proof
end

