-- ==== Sys2Proof/WellFormed.lean ====
section
/-! DEFINITION. Which instruction terms are well formed: the operand checks of 30_encoding.md R147 and the burst
length of R113. A buffer id outside 0..2 and a state code above 4 have no term. -/

namespace Sys2Proof

/-- The bytes each receive buffer holds (10_state.md R34). -/
def BufId.capacity : BufId → Nat
  | .buf1 => 26
  | .buf2 => 8
  | .bufd => 8

/-- The highest micro-ROM address a branch or call may name (R147). -/
def lastRomAddress : Byte := 0x2E

/-- The operand checks of the instruction (R113, R147): a burst of 1 to 32 bytes, an RDB that fits its buffer,
a BBUSY or CALL target not above 0x2E. -/
def Instr.wellFormed : Instr → Bool
  | .readBlock _ n => decide (1 ≤ n) && decide (n ≤ 32)
  | .rdb _ n buf => decide (1 ≤ n.toNat) && decide (n.toNat ≤ 32) && decide (n.toNat ≤ buf.capacity)
  | .bbusy _ l => decide (l ≤ lastRomAddress)
  | .call l => decide (l ≤ lastRomAddress)
  | .reset | .refresh | .readT | .readP | .readH => true
  | .writeRegister _ _ | .readRegister _ | .bindSession => true
  | .rdChipId | .wrSoftReset | .rdStatus | .rdCal1 | .rdCal2 => true
  | .wrCtrlHum | .wrCtrlMeasCfg | .wrConfig | .wrCtrlMeasForced | .rdData => true
  | .endCmd | .bind | .wr _ _ | .rd _ | .chkid _ | .pinit | .pwait => true
  | .ret | .setst _ | .pcal | .chkrsv | .decode => true
  | .compt | .compp | .comph | .commit => true

end Sys2Proof
end

