-- ==== Sys2Proof/Decode.lean ====
section
/-! DEFINITION. Decoding and encoding (30_encoding.md): host codes (R140, R141), wire transactions (R110 to R115)
and micro-instructions in format U (R145 to R147). Decoding is total and rejects by name. -/

namespace Sys2Proof

/-- Why a code is no instruction. -/
inductive DecodeReject where
  /-- A host code outside 0x01..0x05 (R141). -/
  | reservedHostCode
  /-- Frames that are no wire transaction of R114. -/
  | notATransaction
  /-- A micro-instruction that R147 calls illegal. -/
  | illegalMicroOp
deriving DecidableEq, Repr

/-! ## Host command codes -/

/-- The host command of a code (R140); the others are reserved (R141). -/
def decodeHost (code : Byte) : Except DecodeReject Instr :=
  match code.toNat with
  | 0x01 => .ok .reset
  | 0x02 => .ok .refresh
  | 0x03 => .ok .readT
  | 0x04 => .ok .readP
  | 0x05 => .ok .readH
  | _ => .error .reservedHostCode

/-! ## Wire transactions -/

/-- The concrete transaction of 40_bus_transactions.md section 2 that a generic one is an instance of under the
parameters, or the generic one itself (R166 to R175). -/
def nameWire (p : BcbConfig) : Instr → Instr
  | .writeRegister a v =>
    if a = p.regSoftReset ∧ v = p.softResetCmd then .wrSoftReset
    else if a = p.regCtrlHum ∧ v = p.ctrlHumValue then .wrCtrlHum
    else if a = p.regCtrlMeas ∧ v = p.ctrlMeasConfigValue then .wrCtrlMeasCfg
    else if a = p.regCtrlMeas ∧ v = p.ctrlMeasForcedValue then .wrCtrlMeasForced
    else if a = p.regConfig ∧ v = p.configValue then .wrConfig
    else .writeRegister a v
  | .readRegister a =>
    if a = p.regChipId then .rdChipId
    else if a = p.regStatus then .rdStatus
    else .readRegister a
  | .readBlock a n =>
    if a = p.regCal1 ∧ n = p.cal1Len.toNat then .rdCal1
    else if a = p.regCal2 ∧ n = p.cal2Len.toNat then .rdCal2
    else if a = p.regData ∧ n = p.dataLen.toNat then .rdData
    else .readBlock a n
  | i => i

/-- The generic transaction of a sequence of frames (R114): a 2-byte write transfer is a WriteRegister; a 1-byte
write transfer and a read transfer is a ReadRegister or a ReadBlock according to the count read. -/
def decodeFrames : List Frame → Option Instr
  | [.bind] => some .bindSession
  | [.write [a, v]] => some (.writeRegister a v)
  | [.write [a], .read n] =>
    if n = 1 then some (.readRegister a)
    else if 2 ≤ n ∧ n ≤ 32 then some (.readBlock a n)
    else none
  | _ => none

/-- The wire transaction of a sequence of frames (R114), under the name section 2 gives it if it has one. -/
def decodeWire (p : BcbConfig) (frames : List Frame) : Except DecodeReject Instr :=
  match decodeFrames frames with
  | some i => .ok (nameWire p i)
  | none => .error .notATransaction

/-! ## Micro-instructions -/

/-- The numeric code of a life-cycle state (10_state.md R42), as the 8-bit B field of SETST. -/
def LifeState.byteCode : LifeState → Byte
  | .uninit => 0
  | .resetting => 1
  | .configuring => 2
  | .ready => 3
  | .measuring => 4

/-- The life-cycle state of a code; codes above 4 are illegal (R42, R147). -/
def LifeState.ofCode (b : Byte) : Option LifeState :=
  match b.toNat with
  | 0 => some .uninit
  | 1 => some .resetting
  | 2 => some .configuring
  | 3 => some .ready
  | 4 => some .measuring
  | _ => none

/-- The buffer id of the C field of RDB (R146). -/
def BufId.byteCode : BufId → Byte
  | .buf1 => 0
  | .buf2 => 1
  | .bufd => 2

/-- The buffer of an id; ids above 2 are illegal (R147). -/
def BufId.ofCode (b : Byte) : Option BufId :=
  match b.toNat with
  | 0 => some .buf1
  | 1 => some .buf2
  | 2 => some .bufd
  | _ => none

/-- Field OP, bits 31:24 (R145). -/
def opField (w : MicroWord) : Byte := w.extractLsb' 24 8

/-- Field A, bits 23:16 (R145). -/
def aField (w : MicroWord) : Byte := w.extractLsb' 16 8

/-- Field B, bits 15:8 (R145). -/
def bField (w : MicroWord) : Byte := w.extractLsb' 8 8

/-- Field C, bits 7:0 (R145). -/
def cField (w : MicroWord) : Byte := w.extractLsb' 0 8

/-- The instruction, where the fields R146 marks `-` are zero (R147). -/
def whenZero (unused : Bool) (i : Instr) : Option Instr := if unused then some i else none

/-- The table of operation codes with the fields each uses (R146). -/
def decodeFields (op a b c : Byte) : Option Instr :=
  match op.toNat with
  | 0x00 => whenZero (a == 0 && b == 0 && c == 0) .endCmd
  | 0x01 => whenZero (a == 0 && b == 0 && c == 0) .bind
  | 0x02 => whenZero (c == 0) (.wr a b)
  | 0x03 => whenZero (b == 0 && c == 0) (.rd a)
  | 0x04 => (BufId.ofCode c).map (fun buf => .rdb a b buf)
  | 0x05 => whenZero (a == 0 && c == 0) (.chkid b)
  | 0x06 => whenZero (a == 0 && b == 0 && c == 0) .pinit
  | 0x07 => whenZero (a == 0 && b == 0 && c == 0) .pwait
  | 0x08 => whenZero (a == 0) (.bbusy b c)
  | 0x09 => whenZero (a == 0 && b == 0) (.call c)
  | 0x0A => whenZero (a == 0 && b == 0 && c == 0) .ret
  | 0x0B => (LifeState.ofCode b).bind (fun st => whenZero (a == 0 && c == 0) (.setst st))
  | 0x10 => whenZero (a == 0 && b == 0 && c == 0) .pcal
  | 0x11 => whenZero (a == 0 && b == 0 && c == 0) .chkrsv
  | 0x12 => whenZero (a == 0 && b == 0 && c == 0) .decode
  | 0x13 => whenZero (a == 0 && b == 0 && c == 0) .compt
  | 0x14 => whenZero (a == 0 && b == 0 && c == 0) .compp
  | 0x15 => whenZero (a == 0 && b == 0 && c == 0) .comph
  | 0x16 => whenZero (a == 0 && b == 0 && c == 0) .commit
  | _ => none

/-- The micro-instruction of a word; every word R147 calls illegal is rejected. -/
def decodeMicro (w : MicroWord) : Except DecodeReject Instr :=
  match decodeFields (opField w) (aField w) (bField w) (cField w) with
  | some i => if i.wellFormed then .ok i else .error .illegalMicroOp
  | none => .error .illegalMicroOp

/-- The instruction a code stands for, by the interface it is read from. -/
def decode (p : BcbConfig) : Code → Except DecodeReject Instr
  | .host code => decodeHost code
  | .wire frames => decodeWire p frames
  | .micro w => decodeMicro w

/-! ## Encoding -/

/-- A micro-instruction from its four fields (R145). -/
def microWord (op a b c : Byte) : MicroWord := op ++ a ++ b ++ c

/-- The frames of a register write (R111). -/
def writeFrames (a v : Byte) : List Frame := [.write [a, v]]

/-- The frames of a read: the address-select frame, then the read frame (R112, R113). -/
def readFrames (a : Byte) (n : Nat) : List Frame := [.write [a], .read n]

/-- The encoded form of an instruction: host code (R140), frames (R114) or micro word (R146). -/
def encode (p : BcbConfig) : Instr → Code
  | .reset => .host 0x01
  | .refresh => .host 0x02
  | .readT => .host 0x03
  | .readP => .host 0x04
  | .readH => .host 0x05
  | .writeRegister a v => .wire (writeFrames a v)
  | .readRegister a => .wire (readFrames a 1)
  | .readBlock a n => .wire (readFrames a n)
  | .bindSession => .wire [.bind]
  | .rdChipId => .wire (readFrames p.regChipId 1)
  | .wrSoftReset => .wire (writeFrames p.regSoftReset p.softResetCmd)
  | .rdStatus => .wire (readFrames p.regStatus 1)
  | .rdCal1 => .wire (readFrames p.regCal1 p.cal1Len.toNat)
  | .rdCal2 => .wire (readFrames p.regCal2 p.cal2Len.toNat)
  | .wrCtrlHum => .wire (writeFrames p.regCtrlHum p.ctrlHumValue)
  | .wrCtrlMeasCfg => .wire (writeFrames p.regCtrlMeas p.ctrlMeasConfigValue)
  | .wrConfig => .wire (writeFrames p.regConfig p.configValue)
  | .wrCtrlMeasForced => .wire (writeFrames p.regCtrlMeas p.ctrlMeasForcedValue)
  | .rdData => .wire (readFrames p.regData p.dataLen.toNat)
  | .endCmd => .micro (microWord 0x00 0 0 0)
  | .bind => .micro (microWord 0x01 0 0 0)
  | .wr a v => .micro (microWord 0x02 a v 0)
  | .rd a => .micro (microWord 0x03 a 0 0)
  | .rdb a n buf => .micro (microWord 0x04 a n buf.byteCode)
  | .chkid v => .micro (microWord 0x05 0 v 0)
  | .pinit => .micro (microWord 0x06 0 0 0)
  | .pwait => .micro (microWord 0x07 0 0 0)
  | .bbusy m l => .micro (microWord 0x08 0 m l)
  | .call l => .micro (microWord 0x09 0 0 l)
  | .ret => .micro (microWord 0x0A 0 0 0)
  | .setst st => .micro (microWord 0x0B 0 st.byteCode 0)
  | .pcal => .micro (microWord 0x10 0 0 0)
  | .chkrsv => .micro (microWord 0x11 0 0 0)
  | .decode => .micro (microWord 0x12 0 0 0)
  | .compt => .micro (microWord 0x13 0 0 0)
  | .compp => .micro (microWord 0x14 0 0 0)
  | .comph => .micro (microWord 0x15 0 0 0)
  | .commit => .micro (microWord 0x16 0 0 0)

/-! ## The opcode table's numbering -/

/-- The read length that goes with an address-select byte of the opcode table: that of the concrete burst at the
address (R169, R170, R175), otherwise one byte (R162). DESIGN CHOICE, log 19: the table gives the length no bits. -/
def tableReadLength (a : Byte) : Nat :=
  if a = 0x88 then 26 else if a = 0xE1 then 7 else if a = 0xF7 then 8 else 1

/-- The code an opcode-table word stands for, by its length in bits. Eight bits: a host code (HOST8) where the
table has one, otherwise the select byte of a read (WIRE). Sixteen: a register-write frame, first byte in bits
15:8 (R111). None: Bind, which has no frame (R115). Thirty-two: format U. DESIGN CHOICE, log 19: the table puts the
lengths of RD_CAL1 and RD_DATA at bits 26 and 8, which the spec's encoding does not have; those words are read as
the rows they stand for. -/
def tableCode (nbits w : Nat) : Code :=
  if nbits = 8 then
    if 1 ≤ w ∧ w ≤ 5 then .host (BitVec.ofNat 8 w)
    else .wire (readFrames (BitVec.ofNat 8 w) (tableReadLength (BitVec.ofNat 8 w)))
  else if nbits = 16 then
    if w = 0x00F7 ∨ w = 0x01F7 then .wire (readFrames 0xF7 8)
    else .wire (writeFrames (BitVec.ofNat 8 (w / 256)) (BitVec.ofNat 8 w))
  else if nbits = 0 then .wire [.bind]
  else if w = 0x88 ∨ w = 0x4000088 then .wire (readFrames 0x88 26)
  else .micro (BitVec.ofNat 32 w)

/-- The instruction the decoder reads from an opcode-table word of `nbits` bits, under the default parameters. -/
def decodeTableWord (nbits w : Nat) : Option Instr :=
  match decode BcbConfig.defaults (tableCode nbits w) with
  | .ok i => some i
  | .error _ => none

end Sys2Proof
end

