-- ==== Sys2Proof/Machine/Rom.lean ====
section
/-! DEFINITION. The micro-ROM: the program of 44_controller.md R360 as a function of the parameters (R361), the
sparse memory that holds it (20_memory.md R81), and which parameter records the spec admits (60_exceptions.md
R389). -/

namespace Sys2Proof.Machine

/-- A word-addressed memory of 32-bit words: (address, word) pairs, addresses strictly rising. An address that is
not listed is a hole (R81, R334). DESIGN CHOICE, log 5: cells are whole words, since R86 gives the fetch no byte
order. -/
abbrev Memory := List (Nat × MicroWord)

/-- The word at an address; `none` is a hole (R334). -/
def Memory.read (m : Memory) (a : Nat) : Option MicroWord :=
  match m with
  | [] => none
  | (b, w) :: rest => if b = a then some w else Memory.read rest a

/-- The memory with `w` at `a`, in canonical form. No step uses it: the ROM is never written (R99). It stands for
the making of a ROM (`withFetchWord`). -/
def Memory.write (m : Memory) (a : Nat) (w : MicroWord) : Memory :=
  match m with
  | [] => [(a, w)]
  | (b, v) :: rest =>
    if a < b then (a, w) :: (b, v) :: rest
    else if a = b then (a, w) :: rest
    else (b, v) :: Memory.write rest a w

/-- The canonical form: addresses strictly rising, all of them 8-bit (R81). -/
def Memory.wf : Memory → Bool
  | [] => true
  | [(a, _)] => decide (a < 256)
  | (a, _) :: (b, w) :: rest => decide (a < b) && Memory.wf ((b, w) :: rest)

/-- RESET's part of the ROM, 0x00 to 0x0F (R360, R361). -/
def Rom.resetPart (p : BcbConfig) : List (Nat × Instr) :=
  [ (0x00, .setst .resetting),
    (0x01, .bind),
    (0x02, .rd p.regChipId),
    (0x03, .chkid p.chipIdExpected),
    (0x04, .wr p.regSoftReset p.softResetCmd),
    (0x05, .pinit),
    (0x06, .pwait),
    (0x07, .rd p.regStatus),
    (0x08, .bbusy p.resetBusyMask 0x06),
    (0x09, .rdb p.regCal1 p.cal1Len .buf1),
    (0x0A, .rdb p.regCal2 p.cal2Len .buf2),
    (0x0B, .pcal),
    (0x0C, .setst .configuring),
    (0x0D, .wr p.regCtrlHum p.ctrlHumValue),
    (0x0E, .wr p.regCtrlMeas p.ctrlMeasConfigValue),
    (0x0F, .wr p.regConfig p.configValue) ]

/-- The priming runs: `PRIMING_COUNT` copies of CALL 0x20 from 0x10 on, then END; behind them the words of R360 up to
0x12 stay, since no other address changes (R361). -/
def Rom.primingPart (k : Nat) : List (Nat × Instr) :=
  (List.range k).map (fun j => (0x10 + j, .call 0x20)) ++ [(0x10 + k, .endCmd)]
    ++ ([(0x11, .call 0x20), (0x12, .endCmd)] : List (Nat × Instr)).drop k

/-- REFRESH's entry and the Refresh body, 0x18, 0x19 and 0x20 to 0x2E (R360, R361). -/
def Rom.refreshPart (p : BcbConfig) : List (Nat × Instr) :=
  [ (0x18, .call 0x20),
    (0x19, .endCmd),
    (0x20, .setst .measuring),
    (0x21, .wr p.regCtrlMeas p.ctrlMeasForcedValue),
    (0x22, .pinit),
    (0x23, .pwait),
    (0x24, .rd p.regStatus),
    (0x25, .bbusy p.measBusyMask 0x23),
    (0x26, .rdb p.regData p.dataLen .bufd),
    (0x27, .chkrsv),
    (0x28, .decode),
    (0x29, .compt),
    (0x2A, .compp),
    (0x2B, .comph),
    (0x2C, .commit),
    (0x2D, .setst .ready),
    (0x2E, .ret) ]

/-- The micro-program under the parameters (R360, R361). -/
def Rom.program (p : BcbConfig) : List (Nat × Instr) :=
  Rom.resetPart p ++ Rom.primingPart p.primingCount.toNat ++ Rom.refreshPart p

/-- The word of a micro-instruction (R146). -/
def Rom.wordOf (p : BcbConfig) (i : Instr) : MicroWord :=
  match encode p i with
  | .micro w => w
  | _ => 0

/-- The micro-ROM's contents under the parameters. -/
def Rom.image (p : BcbConfig) : Memory :=
  (Rom.program p).map (fun row => (row.1, Rom.wordOf p row.2))

/-- The parameter records the spec admits (R389): not WORD16 with CAL2_LEN 7 (R137), PRIMING_COUNT 1 to 7 (R361),
CAL2_LEN 7 or 8 (R9). Every variant is implemented, so none is refused. DEDUCED, log 14. -/
def paramsAdmitted (p : BcbConfig) : Bool :=
  (decide (p.cal2Len = 8) || (decide (p.cal2Len = 7) && decide (p.h45Layout = .nibble12)))
    && decide (1 ≤ p.primingCount.toNat) && decide (p.primingCount.toNat ≤ 7)

end Sys2Proof.Machine
end

