-- ==== Sys2Proof/Machine/State.lean ====
section
/-! DEFINITION. The state of the BCB (10_state.md) as plain data, the reasons a step can stop, and the state after
power-up (R59, R420). A field of type `Option` that the spec calls unwritten at reset is `none` then: the spec
gives such an element no value, and a read of it is the fault UnwrittenRead (R31, R389; log 1). -/

namespace Sys2Proof.Machine

/-- The state elements that can be unwritten (R31, R59), as UnwrittenRead names them. -/
inductive Element where
  | cal
  | buf1
  | buf2
  | bufd
  | rdata
  | rawP
  | rawT
  | rawH
  | tfine
  | tNew
  | pNew
  | hNew
  | sampleT
  | sampleP
  | sampleH
  | upc
  | link
  | pollcnt
  | cmd
deriving DecidableEq, Repr

/-- The model-only faults (60_exceptions.md R389). A faulted machine takes no further step; all are SAFE: the
model stops where the spec gives the hardware no behaviour (log 2). -/
inductive Fault where
  /-- A state element that holds no value is read (R31). Raised by every meaning that reads one. Safe. -/
  | unwrittenRead (e : Element)
  /-- COMPP or COMPH ran with TFINE_GEN different from RAW_GEN (R38, R430). Raised by those two. Safe. -/
  | tfineMismatch
  /-- A transaction was issued with SESSION_BOUND = 0 (R47, R160). Raised by every register transaction. Safe. -/
  | unbound
  /-- An illegal micro-instruction was fetched (R147). Raised by the fetch, and by RDB, BBUSY and CALL on operands
  no legal word has. Safe. -/
  | illegalMicroOp
  /-- A hole of the ROM was fetched (R334). Raised by the fetch. Safe. -/
  | romOverrun
deriving DecidableEq, Repr

/-- The refusals: the state-wide REFUSED mark of R389 (log 2), and the inputs the spec gives no move for. All are
SAFE: the model stops. -/
inductive Refusal where
  /-- An instruction with no meaning yet. No arm of `exec` answers it. Safe. -/
  | notModelled (mnemonic : String)
  /-- A reserved host code on the command port (R141, R326). Raised by the fetch of a host command. Safe. -/
  | reservedHostCode (code : Byte)
  /-- A parameter record the spec does not admit (R137, R361, R389). Raised by the fetch. Safe. -/
  | parametersNotAdmitted
  /-- Frames on the direct bus port that are no wire transaction (R114; log 6). Raised by the fetch. Safe. -/
  | notATransaction
  /-- A ReadBlock of a length outside 1..32 (R113, R163; log 21). Raised by ReadBlock and the three concrete bursts. Safe. -/
  | burstLength (n : Nat)
  /-- A host command while BUSY = 1: a breach of the host's duty, for which the spec gives no move (R320, R403;
  log 9). Raised by the five host commands; no step reaches it. Safe. -/
  | commandWhileBusy
deriving DecidableEq, Repr

/-- The error kinds of ERR (10_state.md R45). -/
inductive ErrKind where
  | none
  | busTransferError
  | protocolError
  | logicError
  | timeoutError
  | notReady
deriving DecidableEq, Repr

/-- The transaction kind in a BusTransferError record (R381). -/
inductive XferKind where
  | bind
  | write
  | select
  | read
  | burst
deriving DecidableEq, Repr

/-- ERRINFO, the record of the last abort or NotReady, by kind (10_state.md R46). -/
inductive ErrInfo where
  /-- BusTransferError: kind, register address, requested and accepted byte counts. -/
  | bus (kind : XferKind) (addr : Byte) (want got : Nat)
  /-- ProtocolError: the chip-id byte read. -/
  | chipId (id : Byte)
  /-- LogicError: the two reserved nibbles. -/
  | reserved (rsvP rsvT : BitVec 4)
  /-- TimeoutError: the status byte last read and the mask polled. -/
  | poll (status mask : Byte)
  /-- NotReady: the command code. -/
  | notReady (cmd : Byte)
deriving DecidableEq, Repr

/-- CMD, the host command being run (R43). -/
inductive HostCmd where
  | reset
  | refresh
deriving DecidableEq, Repr

/-- CAL, the 18 coefficients (10_state.md R32), each the bit pattern of its container. Signed ones are read by
`toInt`, unsigned ones by `toNat`; `dig_P1` is read by P1_SIGNEDNESS (R203; log 18). -/
structure Cal where
  digT1 : BitVec 16
  digT2 : BitVec 16
  digT3 : BitVec 16
  digP1 : BitVec 16
  digP2 : BitVec 16
  digP3 : BitVec 16
  digP4 : BitVec 16
  digP5 : BitVec 16
  digP6 : BitVec 16
  digP7 : BitVec 16
  digP8 : BitVec 16
  digP9 : BitVec 16
  digH1 : BitVec 8
  digH2 : BitVec 16
  digH3 : BitVec 8
  digH4 : BitVec 16
  digH5 : BitVec 16
  digH6 : BitVec 8
deriving DecidableEq, Repr

/-- One event of the bus trace and of the clock (70_reset_and_hazards.md R443, 30_encoding.md R152). -/
inductive BusEvent where
  /-- The adapter's Bind and its answer (R115, R164). -/
  | bind (addr : BitVec 7) (ok : Bool)
  /-- A write transfer and the count the bus accepted. -/
  | write (bytes : List Byte) (accepted : Nat)
  /-- A read transfer of `want` bytes and the bytes that came. -/
  | read (want : Nat) (bytes : List Byte)
  /-- Sleep(POLL_INTERVAL), in milliseconds (R337). -/
  | sleep (ms : Nat)
deriving DecidableEq, Repr

/-- A sensor fixture: the sensor's registers as 10_state.md R49 to R57 give them, each with the value of R49's reset
column as its default. It is an external agent, not state of the BCB; where one is attached, it is one deterministic bus oracle (R89; log 17). -/
structure Sensor where
  /-- calib00 to calib25 at 0x88 to 0xA1 (R49). -/
  calib1 : List Byte
  /-- calib26 on, at 0xE1 to 0xE8 (R49). -/
  calib2 : List Byte
  /-- `id` at 0xD0, reset value 0x60 (R49, R50). -/
  id : Byte := 0x60
  /-- `ctrl_hum` at 0xF2 as last written (R52). -/
  ctrlHum : Byte := 0x00
  /-- The humidity oversampling in effect: latched by a write of `ctrl_meas` (R52). -/
  osrsH : BitVec 3 := 0
  /-- `ctrl_meas` at 0xF4 (R54). -/
  ctrlMeas : Byte := 0x00
  /-- `config` at 0xF5 (R55). -/
  config : Byte := 0x00
  /-- Sleeps left until the NVM copy ends; `im_update` is 1 while it is not 0 (R53). -/
  copyLeft : Nat := 0
  /-- Sleeps left until the conversion ends; `measuring` is 1 while it is not 0 (R53). -/
  convLeft : Nat := 0
  /-- The eight data registers at 0xF7 to 0xFE (R56). -/
  data : List Byte := [0x80, 0x00, 0x00, 0x80, 0x00, 0x00, 0x80, 0x00]
  /-- The register pointer (R57). -/
  pointer : Byte
  /-- The fixture's knob: the sleeps a copy takes. -/
  copyTime : Nat
  /-- The fixture's knob: the sleeps a conversion takes. -/
  convTime : Nat
  /-- The results of the next conversions, first to come first; free bytes when it is empty. -/
  results : List (List Byte)
deriving DecidableEq, Repr

/-- The bus as the BCB sees it (R89): where the next answers come from, and what has passed on it. Answers written
down in `script` come first, then the attached sensor fixture's, otherwise the free oracle's (log 3). -/
structure Bus where
  script : List BusAnswer
  sensor : Option Sensor
  draws : Nat
  trace : List BusEvent
deriving DecidableEq, Repr

/-- A value a READ_* command returned to the host (R323 to R325, R443). -/
structure HostReturn where
  code : Byte
  value : F64
deriving DecidableEq, Repr

/-- An event of the observer port (60_exceptions.md R408): UPC, OP and the transfers of the micro-step. -/
structure ObserverEvent where
  upc : Byte
  op : Byte
  transfers : List BusEvent
deriving DecidableEq, Repr

/-- The machine's state. Plain data; each field's rule is in its line. -/
structure State where
  /-- BcbConfig (R8): fixed at construction, changed by no step (R421; log 4). -/
  cfg : BcbConfig
  /-- The micro-ROM (R81, R99). -/
  rom : Memory
  /-- STATE (R42). -/
  lifeState : LifeState
  /-- BUSY (R43). -/
  busy : Bool
  /-- ERR (R45). -/
  err : ErrKind
  /-- ERRINFO (R46). -/
  errInfo : Option ErrInfo
  /-- SESSION_BOUND (R47). -/
  sessionBound : Bool
  /-- CAL (R32). -/
  cal : Option Cal
  /-- CAL_VALID (R33). -/
  calValid : Bool
  /-- BUF1, 26 bytes (R34). -/
  buf1 : List (Option Byte)
  /-- BUF2, 8 bytes (R34). -/
  buf2 : List (Option Byte)
  /-- BUFD, 8 bytes (R34). -/
  bufd : List (Option Byte)
  /-- RDATA (R35). -/
  rdata : Option Byte
  /-- RAW_P (R36). -/
  rawP : Option (BitVec 20)
  /-- RAW_T (R36). -/
  rawT : Option (BitVec 20)
  /-- RAW_H (R36). -/
  rawH : Option (BitVec 16)
  /-- TFINE (R37). -/
  tfine : Option (BitVec 32)
  /-- RAW_GEN (R38). -/
  rawGen : Nat
  /-- TFINE_GEN (R38). -/
  tfineGen : Nat
  /-- T_NEW (R39). -/
  tNew : Option F64
  /-- P_NEW (R39). -/
  pNew : Option F64
  /-- H_NEW (R39). -/
  hNew : Option F64
  /-- T_INT, the integer word beside T_NEW (R300; log 16). -/
  tInt : Option (BitVec 32)
  /-- P_INT (R300). -/
  pInt : Option (BitVec 32)
  /-- H_INT (R300). -/
  hInt : Option (BitVec 32)
  /-- SAMPLE_T (R40). -/
  sampleT : Option F64
  /-- SAMPLE_P (R40). -/
  sampleP : Option F64
  /-- SAMPLE_H (R40). -/
  sampleH : Option F64
  /-- SAMPLE_VALID (R41). -/
  sampleValid : Bool
  /-- UPC (R43). -/
  upc : Option Byte
  /-- LINK (R43). -/
  link : Option Byte
  /-- POLLCNT (R43). -/
  pollcnt : Option Nat
  /-- CMD (R43). -/
  cmd : Option HostCmd
  /-- The bus: oracle and trace (R89, R443). -/
  bus : Bus
  /-- The host commands still to be issued (R442; log 8). -/
  hostQueue : List Byte
  /-- The values READ_* commands returned, in order (R443). -/
  hostReturns : List HostReturn
  /-- The model's own: frames presented directly to the bus engine (log 6). -/
  wireQueue : List Frame
  /-- The model's own: the bytes the last directly presented read returned (log 7). -/
  wireResult : Option (List Byte)
  /-- The observer port's events (R408). -/
  observerLog : List ObserverEvent
deriving DecidableEq, Repr

/-- The bus with nothing written down, no fixture attached and nothing passed on it. -/
def Bus.idle : Bus := { script := [], sensor := none, draws := 0, trace := [] }

/-- The state after power-up under a parameter record (R59, R420). -/
def State.powerUp (p : BcbConfig) : State :=
  { cfg := p
    rom := Rom.image p
    lifeState := .uninit
    busy := false
    err := .none
    errInfo := none
    sessionBound := false
    cal := none
    calValid := false
    buf1 := List.replicate 26 none
    buf2 := List.replicate 8 none
    bufd := List.replicate 8 none
    rdata := none
    rawP := none
    rawT := none
    rawH := none
    tfine := none
    rawGen := 0
    tfineGen := 0
    tNew := none
    pNew := none
    hNew := none
    tInt := none
    pInt := none
    hInt := none
    sampleT := none
    sampleP := none
    sampleH := none
    sampleValid := false
    upc := none
    link := none
    pollcnt := none
    cmd := none
    bus := Bus.idle
    hostQueue := []
    hostReturns := []
    wireQueue := []
    wireResult := none
    observerLog := [] }

/-- The machine right after power-up with the default parameters (R59). -/
def State.reset : State := State.powerUp BcbConfig.defaults

end Sys2Proof.Machine
end

