-- ==== Sys2Proof/Machine/Flags.lean ====
section
/-! DEFINITION. The status flags and codes of the BCB (10_state.md R42, R44, R45, R48): the status word HSTS, the
numeric codes, and the error kind of a record. There are no arithmetic condition codes (R48). -/

namespace Sys2Proof.Machine

/-- The 3-bit code of STATE (R42). -/
def lifeCode : LifeState → BitVec 3
  | .uninit => 0
  | .resetting => 1
  | .configuring => 2
  | .ready => 3
  | .measuring => 4

/-- The 3-bit code of ERR (R45). -/
def errCode : ErrKind → BitVec 3
  | .none => 0
  | .busTransferError => 1
  | .protocolError => 2
  | .logicError => 3
  | .timeoutError => 4
  | .notReady => 5

/-- The error kind a record belongs to (R46, R381 to R385). -/
def errKindOf : ErrInfo → ErrKind
  | .bus _ _ _ _ => .busTransferError
  | .chipId _ => .protocolError
  | .reserved _ _ => .logicError
  | .poll _ _ => .timeoutError
  | .notReady _ => .notReady

/-- HSTS, the host status word (R44): STATE in bits 2:0, BUSY in 3, ERR in 6:4, SAMPLE_VALID in 7, CAL_VALID in 8,
bits 15:9 read as 0. A read of it has no effect (R320). -/
def State.hsts (s : State) : BitVec 16 :=
  (0 : BitVec 7) ++ BitVec.ofBool s.calValid ++ BitVec.ofBool s.sampleValid
    ++ errCode s.err ++ BitVec.ofBool s.busy ++ lifeCode s.lifeState

end Sys2Proof.Machine
end

