-- ==== Sys2Proof/Machine/Prim.lean ====
section
/-! DEFINITION. The integer primitives of 00_scope.md R15 and the widths of 43_compensation_fixed.md R280. -/

namespace Sys2Proof.Machine

/-- `u16(lo, hi)` and `s16(lo, hi)` of R15 as the 16-bit pattern both read: `hi` in bits 15:8, `lo` in bits 7:0.
The unsigned reading is `toNat`, the signed one `toInt`. -/
def word16 (lo hi : Byte) : BitVec 16 := hi ++ lo

/-- `s8(b)` of R15. -/
def s8 (b : Byte) : Int := b.toInt

/-- `wrap32(v)` of R15: the value in [-2^31, 2^31) congruent to `v`. -/
def wrap32 (v : Int) : Int := v.bmod (2 ^ 32)

/-- `wrap64(v)` of R15: the value in [-2^63, 2^63) congruent to `v`. -/
def wrap64 (v : Int) : Int := v.bmod (2 ^ 64)

/-- `uwrap32(v)` of R15: the value in [0, 2^32) congruent to `v`. -/
def uwrap32 (v : Int) : Int := v % (2 ^ 32)

/-- `asr(v, n)` of R15: floor(v / 2^n). -/
def asr (v : Int) (n : Nat) : Int := v / (2 ^ n)

/-- `lsr(u, n)` of R15, on an unsigned value: floor(u / 2^n). -/
def lsr (u : Int) (n : Nat) : Int := u / (2 ^ n)

/-- `shl(v, n)` in a 32-bit expression (R15, R280): v * 2^n wrapped. -/
def shl32 (v : Int) (n : Nat) : Int := wrap32 (v * 2 ^ n)

/-- `shl(v, n)` in a 64-bit expression (R15, R280): v * 2^n wrapped. -/
def shl64 (v : Int) (n : Nat) : Int := wrap64 (v * 2 ^ n)

/-- `tdiv(a, b)` of R15 in a 64-bit expression (R280): rounds toward zero and wraps. -/
def tdiv64 (a b : Int) : Int := wrap64 (a.tdiv b)

/-- `udiv(a, b)` of R15, on unsigned operands: floor(a / b). -/
def udiv (a b : Int) : Int := a / b

end Sys2Proof.Machine
end

