-- ==== Sys2Proof/Machine/Operands.lean ====
section
/-! DEFINITION. Reading the operands of a meaning: state elements that may be unwritten (10_state.md R31), bytes of
the receive buffers (R34), and the coefficients of CAL by value (R32, R203, R280). -/

namespace Sys2Proof.Machine

/-- What a step or a meaning answers. -/
abbrev Res := Host.Outcome State Fault Refusal

/-- Read an element: its value goes on to `k`; an unwritten one is the fault UnwrittenRead (R31). -/
def need {α : Type} (e : Element) (x : Option α) (k : α → Res) : Res :=
  match x with
  | some v => k v
  | none => .fault (.unwrittenRead e)

/-- Byte `i` of a receive buffer; `none` if it is not written (R34). -/
def byteAt (buf : List (Option Byte)) (i : Nat) : Option Byte := buf.getD i none

/-- The 16-bit pattern at byte offset `i`, low byte first (R83). -/
def le16At (buf : List (Option Byte)) (i : Nat) : Option (BitVec 16) :=
  (byteAt buf i).bind fun lo => (byteAt buf (i + 1)).map fun hi => word16 lo hi

/-- The buffer after a whole burst: its first bytes are the burst's, the others keep what they held (R34, R180). -/
def bufferAfter (buf : List (Option Byte)) (d : List Byte) : List (Option Byte) :=
  d.map some ++ buf.drop d.length

/-- The buffer an id names (R180). -/
def State.buffer (s : State) : BufId → List (Option Byte)
  | .buf1 => s.buf1
  | .buf2 => s.buf2
  | .bufd => s.bufd

/-- The state with a burst written to the buffer an id names, all at once (R180). -/
def State.putBurst (s : State) (buf : BufId) (d : List Byte) : State :=
  match buf with
  | .buf1 => { s with buf1 := bufferAfter s.buf1 d }
  | .buf2 => { s with buf2 := bufferAfter s.buf2 d }
  | .bufd => { s with bufd := bufferAfter s.bufd d }

/-! ## Coefficients by value (R32) -/

/-- `dig_T1`, unsigned 16. -/
def Cal.t1 (c : Cal) : Int := c.digT1.toNat

/-- `dig_T2`, signed 16. -/
def Cal.t2 (c : Cal) : Int := c.digT2.toInt

/-- `dig_T3`, signed 16. -/
def Cal.t3 (c : Cal) : Int := c.digT3.toInt

/-- `dig_P1`, unsigned 16, or signed 16 under P1_SIGNEDNESS = SIGNED (R203). -/
def Cal.p1 (sgn : Signedness) (c : Cal) : Int :=
  match sgn with
  | .unsigned => c.digP1.toNat
  | .signed => c.digP1.toInt

/-- `dig_P2`, signed 16. -/
def Cal.p2 (c : Cal) : Int := c.digP2.toInt

/-- `dig_P3`, signed 16. -/
def Cal.p3 (c : Cal) : Int := c.digP3.toInt

/-- `dig_P4`, signed 16. -/
def Cal.p4 (c : Cal) : Int := c.digP4.toInt

/-- `dig_P5`, signed 16. -/
def Cal.p5 (c : Cal) : Int := c.digP5.toInt

/-- `dig_P6`, signed 16. -/
def Cal.p6 (c : Cal) : Int := c.digP6.toInt

/-- `dig_P7`, signed 16. -/
def Cal.p7 (c : Cal) : Int := c.digP7.toInt

/-- `dig_P8`, signed 16. -/
def Cal.p8 (c : Cal) : Int := c.digP8.toInt

/-- `dig_P9`, signed 16. -/
def Cal.p9 (c : Cal) : Int := c.digP9.toInt

/-- `dig_H1`, unsigned 8. -/
def Cal.h1 (c : Cal) : Int := c.digH1.toNat

/-- `dig_H2`, signed 16. -/
def Cal.h2 (c : Cal) : Int := c.digH2.toInt

/-- `dig_H3`, unsigned 8. -/
def Cal.h3 (c : Cal) : Int := c.digH3.toNat

/-- `dig_H4`, in a signed 16-bit container. -/
def Cal.h4 (c : Cal) : Int := c.digH4.toInt

/-- `dig_H5`, in a signed 16-bit container. -/
def Cal.h5 (c : Cal) : Int := c.digH5.toInt

/-- `dig_H6`, signed 8. -/
def Cal.h6 (c : Cal) : Int := c.digH6.toInt

end Sys2Proof.Machine
end

