-- ==== Sys2Proof/Machine/Sensor.lean ====
section
/-! DEFINITION. A sensor fixture: one deterministic bus oracle (20_memory.md R89) made of the sensor's registers as
the BCB sees them (10_state.md R49 to R57, 20_memory.md R91, 30_encoding.md R121 to R124). What the spec leaves
open is a free byte, or the fixture is detached (`none`), after which every answer is the free oracle's; the points it
settles by a choice of its own are in log 26. PRESUMED, log 17: the spec marks all of it general knowledge. A fixture
takes part only where a state attaches one. -/

namespace Sys2Proof.Machine

/-- The mode code of `ctrl_meas` bits 1:0 (R122). -/
inductive SensorMode where
  | sleep
  | forced
  | normal
deriving DecidableEq, Repr

/-- The mode of a code: 0b01 and 0b10 both forced (R122). -/
def sensorModeOf (code : BitVec 2) : SensorMode :=
  if code = 0b00 then .sleep else if code = 0b11 then .normal else .forced

/-- The oversampling factor of a code; 0 is "measurement skipped" (R121). -/
def oversamplingOf (code : BitVec 3) : Nat :=
  match code.toNat with
  | 0 => 0
  | 1 => 1
  | 2 => 2
  | 3 => 4
  | 4 => 8
  | _ => 16

/-- The standby time of a `t_sb` code, in tenths of a millisecond, 62.5 ms as 625 (R123). -/
def standbyTenthsMs (code : BitVec 3) : Nat :=
  match code.toNat with
  | 0 => 5
  | 1 => 625
  | 2 => 1250
  | 3 => 2500
  | 4 => 5000
  | 5 => 10000
  | 6 => 100
  | _ => 200

/-- The IIR filter coefficient of a `filter` code; 0 is "filter off" (R124). -/
def filterCoefficientOf (code : BitVec 3) : Nat :=
  match code.toNat with
  | 0 => 0
  | 1 => 2
  | 2 => 4
  | 3 => 8
  | _ => 16

/-- The maximum measurement time in microseconds for the oversampling codes of temperature, pressure and humidity
(R440). No rule of the model depends on it. -/
def maxMeasurementUs (t p h : BitVec 3) : Nat :=
  1250 + 2300 * oversamplingOf t + (2300 * oversamplingOf p + 575) + (2300 * oversamplingOf h + 575)

/-- The typical measurement time in microseconds (R440). No rule of the model depends on it. -/
def typicalMeasurementUs (t p h : BitVec 3) : Nat :=
  1000 + 2000 * oversamplingOf t + (2000 * oversamplingOf p + 500) + (2000 * oversamplingOf h + 500)

/-- `osrs_t` of a `ctrl_meas` value, bits 7:5 (R54). -/
def ctrlMeasOsrsT (v : Byte) : BitVec 3 := v.extractLsb' 5 3

/-- `osrs_p` of a `ctrl_meas` value, bits 4:2 (R54). -/
def ctrlMeasOsrsP (v : Byte) : BitVec 3 := v.extractLsb' 2 3

/-- `mode` of a `ctrl_meas` value, bits 1:0 (R54). -/
def ctrlMeasMode (v : Byte) : SensorMode := sensorModeOf (v.extractLsb' 0 2)

/-- `osrs_h` of a `ctrl_hum` value, bits 2:0 (R52). -/
def ctrlHumOsrsH (v : Byte) : BitVec 3 := v.extractLsb' 0 3

/-- The data registers of a channel that is skipped or not yet converted: 0x80000, 0x80000 and 0x8000 (R49, R56). -/
def skippedData : List Byte := [0x80, 0x00, 0x00, 0x80, 0x00, 0x00, 0x80, 0x00]

/-- The sensor's registers after its power-on reset, the reset column of R49 (R51, R422); the NVM copy starts. DESIGN CHOICE, log 26
(unsafe with a fixture attached): `im_update` shows at once, where R432 leaves that open. -/
def Sensor.powerOn (x : Sensor) : Sensor :=
  { x with
    id := 0x60, ctrlHum := 0x00, osrsH := 0, ctrlMeas := 0x00, config := 0x00
    copyLeft := x.copyTime, convLeft := 0, data := skippedData }

/-- `status` at 0xF3: `im_update` in bit 0, `measuring` in bit 3, reserved bits free (R53). DESIGN CHOICE, log 26
(unsafe with a fixture attached): each bit shows from the write that starts its work on, where R432 leaves open
whether it shows at once. -/
def Sensor.status (x : Sensor) (free : Byte) : Byte :=
  (free &&& 0xF6)
    ||| (if x.copyLeft = 0 then 0x00 else 0x01)
    ||| (if x.convLeft = 0 then 0x00 else 0x08)

/-- The register at an address (R49 to R56). A reserved register, or a calibration register while the NVM copy
runs (R425), reads as a free byte. -/
def Sensor.register (x : Sensor) (a free : Byte) : Byte :=
  let n := a.toNat
  if 0x88 ≤ n ∧ n ≤ 0xA1 then
    if x.copyLeft = 0 then (x.calib1[n - 0x88]?).getD free else free
  else if n = 0xD0 then x.id
  else if n = 0xE0 then 0x00
  else if 0xE1 ≤ n ∧ n ≤ 0xE8 then
    if x.copyLeft = 0 then (x.calib2[n - 0xE1]?).getD free else free
  else if n = 0xF2 then x.ctrlHum
  else if n = 0xF3 then Sensor.status x free
  else if n = 0xF4 then x.ctrlMeas
  else if n = 0xF5 then x.config
  else if 0xF7 ≤ n ∧ n ≤ 0xFE then (x.data[n - 0xF7]?).getD free
  else free

/-- A read of `n` bytes: each returns the register at the pointer and advances it; after 0xFF it is free (R57).
`d` numbers the free bytes. -/
def Sensor.readBytes (n d : Nat) (x : Sensor) : List Byte × Sensor :=
  match n with
  | 0 => ([], x)
  | n + 1 =>
    let b := Sensor.register x x.pointer (Config.freeByte d)
    let next := if x.pointer = 0xFF then Config.freeByte (d + 1) else x.pointer + 1
    let rest := Sensor.readBytes n (d + 2) { x with pointer := next }
    (b :: rest.1, rest.2)

/-- A channel's bytes of a conversion: those measured, or the skipped marker where its oversampling is 0 (R121). -/
def channelBytes (osrs : BitVec 3) (measured skipped : List Byte) : List Byte :=
  if oversamplingOf osrs = 0 then skipped else measured

/-- The end of a conversion: the results move to the data registers, skipped channels keep their marker (R53,
R121), and the sensor returns to sleep mode (R351, R406). A result not written down is eight free bytes (R7 (e)). -/
def Sensor.complete (d : Nat) (x : Sensor) : Sensor :=
  let measured :=
    match x.results with
    | [] => (List.range 8).map (fun k => Config.freeByte (d + k))
    | r :: _ => r
  { x with
    convLeft := 0
    ctrlMeas := x.ctrlMeas &&& 0xFC
    results := x.results.tail
    data := channelBytes (ctrlMeasOsrsP x.ctrlMeas) (measured.take 3) (skippedData.take 3)
      ++ channelBytes (ctrlMeasOsrsT x.ctrlMeas) ((measured.drop 3).take 3) ((skippedData.drop 3).take 3)
      ++ channelBytes x.osrsH (measured.drop 6) (skippedData.drop 6) }

/-- A forced conversion starts, or starts again (R91, R394). DESIGN CHOICE, log 26 (unsafe with a fixture attached):
`measuring` shows at once, where R432 leaves that open. -/
def Sensor.startConversion (d : Nat) (x : Sensor) : Sensor :=
  if x.convTime = 0 then Sensor.complete d x else { x with convLeft := x.convTime }

/-- A register write (R49 to R55, R91). `none`: the spec leaves the sensor's response open (a read-only or reserved
register, a nonzero reserved bit, R126; normal mode, R7 (b) and (c); sleep mode during a conversion), and the
fixture is detached. DESIGN CHOICE, log 26 (unsafe with a fixture attached): a write of `config` during a forced
conversion stores the value; R55 speaks only of sleep and normal mode. -/
def Sensor.writeRegister (d : Nat) (x : Sensor) (a v : Byte) : Option Sensor :=
  let n := a.toNat
  if n = 0xE0 then
    if v = 0xB6 then some (Sensor.powerOn x) else some x
  else if n = 0xF2 then
    if v &&& 0xF8 = 0 then some { x with ctrlHum := v } else none
  else if n = 0xF4 then
    let latched := { x with ctrlMeas := v, osrsH := ctrlHumOsrsH x.ctrlHum }
    match ctrlMeasMode v with
    | .sleep => if x.convLeft = 0 then some latched else none
    | .forced => some (Sensor.startConversion d latched)
    | .normal => none
  else if n = 0xF5 then
    if v &&& 0x02 = 0 then
      if ctrlMeasMode x.ctrlMeas = .normal ∧ (Config.freeByte d).getLsbD 0 then some x
      else some { x with config := v }
    else none
  else none

/-- A write transfer: its first byte sets the register pointer (R57), two bytes write a register (R111). -/
def Sensor.writeTransfer (d : Nat) (x : Sensor) (bytes : List Byte) : Option Sensor :=
  match bytes with
  | [] => some x
  | [a] => some { x with pointer := a }
  | [a, v] => Sensor.writeRegister d { x with pointer := a } a v
  | _ => none

/-- One Sleep: a running NVM copy and a running conversion come one sleep nearer to their end (R337, R432). -/
def Sensor.tick (d : Nat) (x : Sensor) : Sensor :=
  let y := { x with copyLeft := x.copyLeft - 1 }
  if x.convLeft = 1 then Sensor.complete d y else { y with convLeft := x.convLeft - 1 }

end Sys2Proof.Machine
end

