-- ==== Sys2Proof/Machine/Ops.lean ====
section
/-! DEFINITION. The shared operations: the bus transfers answered by the oracle (20_memory.md R89), the register
transactions (40_bus_transactions.md R160 to R164), raising an error and the two aborts (60_exceptions.md R380,
R394, R395), NotReady (44_controller.md R327) and the advance of UPC (R330). -/

namespace Sys2Proof.Machine

/-! ## The bus oracle (R89) -/

/-- The next answer that no sensor fixture gives: the next one written down, otherwise the free oracle's. An attached
fixture does not see a transfer answered so (DESIGN CHOICE, log 25). -/
def Bus.draw (b : Bus) : BusAnswer × Bus :=
  match b.script with
  | a :: rest => (a, { b with script := rest })
  | [] => (Config.busOracle b.draws, { b with draws := b.draws + 1 })

/-- The bus with one more event in its trace (R443). -/
def Bus.log (b : Bus) (e : BusEvent) : Bus := { b with trace := b.trace ++ [e] }

/-- `Bind(SLAVE_ADDR)`: `true` is ok, `false` is fail (R89, R164). An attached fixture answers ok (log 17). The
event stays in the trace also when it is refused (DESIGN CHOICE, log 27). -/
def Bus.bindSlave (addr : BitVec 7) (b : Bus) : Bool × Bus :=
  match b.script, b.sensor with
  | [], some _ => (true, Bus.log b (.bind addr true))
  | _, _ =>
    let a := Bus.draw b
    (a.1.bindOk, Bus.log a.2 (.bind addr a.1.bindOk))

/-- `BusWriteXfer(bytes)`: the count of bytes accepted, at most those sent (R89). DESIGN CHOICE, log 25 (unsafe for a
run with both): a write or select answered from the script, also a short one (R161), leaves an attached fixture's
registers and pointer unchanged, so its later reads do not reflect it (R94). -/
def Bus.writeXfer (bytes : List Byte) (b : Bus) : Nat × Bus :=
  match b.script, b.sensor with
  | [], some x =>
    (bytes.length,
      Bus.log { b with sensor := Sensor.writeTransfer b.draws x bytes, draws := b.draws + 8 }
        (.write bytes bytes.length))
  | _, _ =>
    let a := Bus.draw b
    let k := min a.1.accepted bytes.length
    (k, Bus.log a.2 (.write bytes k))

/-- `BusReadXfer(n)`: the bytes that came, at most `n`; their number is the count (R89). DESIGN CHOICE, log 25: a read
answered from the script leaves an attached fixture's pointer unchanged. -/
def Bus.readXfer (n : Nat) (b : Bus) : List Byte × Bus :=
  match b.script, b.sensor with
  | [], some x =>
    let r := Sensor.readBytes n b.draws x
    (r.1, Bus.log { b with sensor := some r.2, draws := b.draws + 2 * n } (.read n r.1))
  | _, _ =>
    let a := Bus.draw b
    (a.1.bytes.take n, Bus.log a.2 (.read n (a.1.bytes.take n)))

/-- `Sleep(POLL_INTERVAL)`: an event; an attached sensor fixture makes progress (R337). -/
def Bus.sleep (ms : Nat) (b : Bus) : Bus :=
  match b.sensor with
  | some x => Bus.log { b with sensor := some (Sensor.tick b.draws x), draws := b.draws + 8 } (.sleep ms)
  | none => Bus.log b (.sleep ms)

/-! ## Raising an error (R380, R394, R395) -/

/-- `abort_refresh()` (R394). -/
def abortRefresh (s : State) : State := { s with lifeState := .ready }

/-- `abort_reset()` (R395). -/
def abortReset (s : State) : State :=
  { s with lifeState := .uninit, calValid := false, sampleValid := false, sessionBound := false }

/-- The state after the abort of a running command with an error record (R380): ERR and ERRINFO written, the
abort of the command, BUSY cleared. UPC, LINK and POLLCNT keep their values (R388). -/
def abortWith (info : ErrInfo) (c : HostCmd) (s : State) : State :=
  let recorded := { s with err := errKindOf info, errInfo := some info }
  let aborted := match c with
    | .refresh => abortRefresh recorded
    | .reset => abortReset recorded
  { aborted with busy := false }

/-- `raise E(info)`: taking an error, in one step (R380). CMD tells which abort it is. -/
def raiseError (info : ErrInfo) (s : State) : Res :=
  need .cmd s.cmd fun c => .next (abortWith info c s)

/-- `NotReady(code)`: a command completed without running (R327). Not an abort. -/
def notReady (code : Byte) (s : State) : State :=
  { s with err := .notReady, errInfo := some (.notReady code) }

/-! ## The register transactions (R160 to R165) -/

/-- How a transaction ends: with its result, by raising BusTransferError, or in a model fault. -/
inductive Tx (α : Type) where
  | done (v : α) (s : State)
  | raised (info : ErrInfo) (s : State)
  | faulted (f : Fault)

/-- A transaction's end as an outcome: its result goes on to `k`, an error is raised (R165, R380). -/
def Tx.finish {α : Type} (t : Tx α) (k : α → State → Res) : Res :=
  match t with
  | .done v s => k v s
  | .raised info s => raiseError info s
  | .faulted f => .fault f

/-- `WriteRegister(a, v)` (R161). -/
def writeRegisterTx (a v : Byte) (s : State) : Tx Unit :=
  if s.sessionBound then
    let r := Bus.writeXfer [a, v] s.bus
    let t := { s with bus := r.2 }
    if r.1 < 2 then .raised (.bus .write a 2 r.1) t else .done () t
  else .faulted .unbound

/-- A select transfer and a read of `n` bytes, `kind` naming the read in an error record (R162, R163). -/
def readTx (kind : XferKind) (a : Byte) (n : Nat) (s : State) : Tx (List Byte) :=
  if s.sessionBound then
    let r := Bus.writeXfer [a] s.bus
    if r.1 < 1 then .raised (.bus .select a 1 r.1) { s with bus := r.2 }
    else
      let q := Bus.readXfer n r.2
      let t := { s with bus := q.2 }
      if q.1.length < n then .raised (.bus kind a n q.1.length) t else .done q.1 t
  else .faulted .unbound

/-- `ReadRegister(a)` (R162). -/
def readRegisterTx (a : Byte) (s : State) : Tx (List Byte) := readTx .read a 1 s

/-- `ReadBlock(a, n)` (R163). -/
def readBlockTx (a : Byte) (n : Nat) (s : State) : Tx (List Byte) := readTx .burst a n s

/-- `Bind(SLAVE_ADDR)` (R164). -/
def bindTx (s : State) : Tx Unit :=
  let r := Bus.bindSlave s.cfg.slaveAddr s.bus
  if r.1 then .done () { s with bus := r.2, sessionBound := true }
  else .raised (.bus .bind (s.cfg.slaveAddr.setWidth 8) 0 0) { s with bus := r.2 }

/-! ## The sequencer's common end (R330) -/

/-- `UPC <- UPC + 1`, the end of every micro-operation whose rule does not write UPC (R330). -/
def advance (s : State) : Res :=
  need .upc s.upc fun u => .next { s with upc := some (u + 1) }

end Sys2Proof.Machine
end

