-- ==== Sys2Proof/Machine/BusMicro.lean ====
section
/-! DEFINITION. The meanings of the bus micro-operations WR, RD, RDB and BIND (40_bus_transactions.md R178 to R181). -/

namespace Sys2Proof.Machine

/-- WR a, v (R178). -/
def execWr (a v : Byte) (s : State) : Res := (writeRegisterTx a v s).finish fun _ t => advance t

/-- RD a (R179): RDATA is written only on success. -/
def execRd (a : Byte) (s : State) : Res :=
  (readRegisterTx a s).finish fun d t => advance { t with rdata := d.head? }

/-- RDB a, n, buf (R180): the buffer is written only on success, all at once. Operands that no legal word has are
illegal (R147). -/
def execRdb (a n : Byte) (buf : BufId) (s : State) : Res :=
  if (Instr.rdb a n buf).wellFormed then
    (readBlockTx a n.toNat s).finish fun d t => advance (t.putBurst buf d)
  else .fault .illegalMicroOp

/-- BIND (R181). -/
def execBind (s : State) : Res := (bindTx s).finish fun _ t => advance t

end Sys2Proof.Machine
end

