-- ==== Sys2Proof/Machine/Calib.lean ====
section
/-! DEFINITION. PCAL (41_calibration.md): the field-by-field parse of both calibration blocks (R201 to R207) and the
one-step commit (R221). A parse is `none` where a byte it reads is unwritten (R31). -/

namespace Sys2Proof.Machine

/-- The empty record a parse starts from (R200); every field is overwritten. -/
def emptyCal : Cal :=
  { digT1 := 0, digT2 := 0, digT3 := 0, digP1 := 0, digP2 := 0, digP3 := 0, digP4 := 0, digP5 := 0, digP6 := 0
    digP7 := 0, digP8 := 0, digP9 := 0, digH1 := 0, digH2 := 0, digH3 := 0, digH4 := 0, digH5 := 0, digH6 := 0 }

/-- The temperature group (R201). -/
def parseT (b1 : List (Option Byte)) (c : Cal) : Option Cal :=
  (le16At b1 0).bind fun t1 =>
  (le16At b1 2).bind fun t2 =>
  (le16At b1 4).map fun t3 =>
  { c with digT1 := t1, digT2 := t2, digT3 := t3 }

/-- The pressure group: `dig_P1` (R203; the pattern is the same for both readings) and `dig_P2` to `dig_P9` (R202). -/
def parseP (b1 : List (Option Byte)) (c : Cal) : Option Cal :=
  (le16At b1 6).bind fun p1 =>
  (le16At b1 8).bind fun p2 =>
  (le16At b1 10).bind fun p3 =>
  (le16At b1 12).bind fun p4 =>
  (le16At b1 14).bind fun p5 =>
  (le16At b1 16).bind fun p6 =>
  (le16At b1 18).bind fun p7 =>
  (le16At b1 20).bind fun p8 =>
  (le16At b1 22).map fun p9 =>
  { c with digP1 := p1, digP2 := p2, digP3 := p3, digP4 := p4, digP5 := p5, digP6 := p6, digP7 := p7
           digP8 := p8, digP9 := p9 }

/-- `dig_H1`, the last byte of block 1 (R204). -/
def parseH1 (b1 : List (Option Byte)) (c : Cal) : Option Cal :=
  (byteAt b1 25).map fun h1 => { c with digH1 := h1 }

/-- `dig_H2` and `dig_H3` (R205). -/
def parseH23 (b2 : List (Option Byte)) (c : Cal) : Option Cal :=
  (le16At b2 0).bind fun h2 =>
  (byteAt b2 2).map fun h3 =>
  { c with digH2 := h2, digH3 := h3 }

/-- `dig_H4` of R206: the signed high byte times 16, plus the low nibble of the shared byte. -/
def nibbleH4 (b3 b4 : Byte) : BitVec 16 := BitVec.ofInt 16 (s8 b3 * 16 + (b4 &&& 0x0F).toNat)

/-- `dig_H5` of R206: the signed high byte times 16, plus the high nibble of the shared byte. -/
def nibbleH5 (b5 b4 : Byte) : BitVec 16 := BitVec.ofInt 16 (s8 b5 * 16 + (b4 >>> 4).toNat)

/-- `dig_H4`, `dig_H5` and `dig_H6` under NIBBLE12 (R206). -/
def parseNibble12 (b2 : List (Option Byte)) (c : Cal) : Option Cal :=
  (byteAt b2 3).bind fun b3 =>
  (byteAt b2 4).bind fun b4 =>
  (byteAt b2 5).bind fun b5 =>
  (byteAt b2 6).map fun b6 =>
  { c with digH4 := nibbleH4 b3 b4, digH5 := nibbleH5 b5 b4, digH6 := b6 }

/-- `dig_H4`, `dig_H5` and `dig_H6` under WORD16 (R207). -/
def parseWord16 (b2 : List (Option Byte)) (c : Cal) : Option Cal :=
  (le16At b2 3).bind fun h4 =>
  (le16At b2 5).bind fun h5 =>
  (byteAt b2 7).map fun h6 =>
  { c with digH4 := h4, digH5 := h5, digH6 := h6 }

/-- Block 1: the temperature and pressure groups and `dig_H1` (R200). -/
def parseBlock1 (b1 : List (Option Byte)) (c : Cal) : Option Cal :=
  ((parseT b1 c).bind (parseP b1)).bind (parseH1 b1)

/-- Block 2: the other humidity coefficients, by H45_LAYOUT (R200). -/
def parseBlock2 (layout : H45Layout) (b2 : List (Option Byte)) (c : Cal) : Option Cal :=
  (parseH23 b2 c).bind fun d =>
    match layout with
    | .nibble12 => parseNibble12 b2 d
    | .word16 => parseWord16 b2 d

/-- PCAL (R200, R221): CAL and CAL_VALID in one step. -/
def execPcal (s : State) : Res :=
  need .buf1 (parseBlock1 s.buf1 emptyCal) fun c1 =>
    need .buf2 (parseBlock2 s.cfg.h45Layout s.buf2 c1) fun c =>
      advance { s with cal := some c, calValid := true }

end Sys2Proof.Machine
end

