-- ==== Sys2Proof/Machine/Control.lean ====
section
/-! DEFINITION. The meanings of the control micro-operations (44_controller.md R331 to R343). -/

namespace Sys2Proof.Machine

/-- END (R331): UPC keeps its value. -/
def execEndCmd (s : State) : Res := .next { s with err := .none, busy := false }

/-- CHKID v (R341). -/
def execChkid (v : Byte) (s : State) : Res :=
  need .rdata s.rdata fun d => if d ≠ v then raiseError (.chipId d) s else advance s

/-- PINIT (R336). -/
def execPinit (s : State) : Res := advance { s with pollcnt := some 0 }

/-- PWAIT (R337). -/
def execPwait (s : State) : Res :=
  need .pollcnt s.pollcnt fun n =>
    advance { s with bus := Bus.sleep s.cfg.pollInterval s.bus, pollcnt := some (n + 1) }

/-- The end of BBUSY's poll: with a finite POLL_LIMIT, POLLCNT at or above it (R335). POLLCNT is read only then
(log 13). -/
def pollAgain (m l d : Byte) (s : State) : Res :=
  match s.cfg.pollLimit with
  | none => .next { s with upc := some l }
  | some limit =>
    need .pollcnt s.pollcnt fun n =>
      if (limit : Nat) ≤ n then raiseError (.poll d m) s else .next { s with upc := some l }

/-- BBUSY m, L (R335). A target above 0x2E is illegal (R147). -/
def execBbusy (m l : Byte) (s : State) : Res :=
  if (Instr.bbusy m l).wellFormed then
    need .rdata s.rdata fun d => if d &&& m = 0 then advance s else pollAgain m l d s
  else .fault .illegalMicroOp

/-- CALL L (R332). A target above 0x2E is illegal (R147). -/
def execCall (l : Byte) (s : State) : Res :=
  if (Instr.call l).wellFormed then
    need .upc s.upc fun u => .next { s with link := some (u + 1), upc := some l }
  else .fault .illegalMicroOp

/-- RET (R333). -/
def execRet (s : State) : Res := need .link s.link fun l => .next { s with upc := some l }

/-- SETST st (R342). -/
def execSetst (st : LifeState) (s : State) : Res := advance { s with lifeState := st }

/-- COMMIT (R343, R96): all three samples and SAMPLE_VALID in one step. -/
def execCommit (s : State) : Res :=
  need .tNew s.tNew fun t =>
    need .pNew s.pNew fun p =>
      need .hNew s.hNew fun h =>
        advance { s with sampleT := some t, sampleP := some p, sampleH := some h, sampleValid := true }

end Sys2Proof.Machine
end

