-- ==== Sys2Proof/Machine/Float.lean ====
section
/-! DEFINITION. IEEE 754 binary64 (00_scope.md R16): the number a 64-bit pattern stands for, rounding of an exact
rational to nearest with ties to even, and the single operations +, -, *, / each rounded once. Every operation
computes the exact result as a rational and rounds it once. -/

namespace Sys2Proof.Machine

/-- What a 64-bit pattern stands for. A finite number carries its sign bit beside its exact value, so that +0.0
and -0.0 are told apart. -/
inductive FVal where
  | nan
  | inf (neg : Bool)
  | fin (neg : Bool) (value : ℚ)
deriving DecidableEq, Repr

/-- The sign bit, bit 63. -/
def F64.signBit (x : F64) : Bool := x.getLsbD 63

/-- The biased exponent, bits 62:52. -/
def F64.expField (x : F64) : Nat := (x.extractLsb' 52 11).toNat

/-- The fraction, bits 51:0. -/
def F64.fracField (x : F64) : Nat := (x.extractLsb' 0 52).toNat

/-- The magnitude `m * 2^(e - 1074)` as an exact rational. -/
def scaleMag (m e : Nat) : ℚ :=
  if e ≤ 1074 then mkRat m (2 ^ (1074 - e)) else mkRat (m * 2 ^ (e - 1074)) 1

/-- The exact magnitude of a finite pattern: exponent field 0 is subnormal, otherwise the leading 1 is implied. -/
def F64.magnitude (x : F64) : ℚ :=
  if F64.expField x = 0 then scaleMag (F64.fracField x) 0
  else scaleMag (2 ^ 52 + F64.fracField x) (F64.expField x - 1)

/-- The number a pattern stands for. -/
def F64.unpack (x : F64) : FVal :=
  if F64.expField x = 2047 then
    if F64.fracField x = 0 then .inf (F64.signBit x) else .nan
  else .fin (F64.signBit x) (if F64.signBit x then -F64.magnitude x else F64.magnitude x)

/-- The exact value of a finite pattern (0 for a pattern that is not finite: use it with `F64.isFinite`). -/
def F64.value (x : F64) : ℚ :=
  match F64.unpack x with
  | .fin _ q => q
  | _ => 0

/-- The pattern is a finite number. -/
def F64.isFinite (x : F64) : Bool :=
  match F64.unpack x with
  | .fin _ _ => true
  | _ => false

/-- The floor of the base-2 logarithm of `num / den`, plus 1074, for positive `num` and `den`; 0 where that is
below 0. -/
def binade (num den : Nat) : Nat :=
  let e := 1074 + num.log2 - den.log2
  if num * 2 ^ 1074 < den * 2 ^ e then e - 1 else e

/-- Round `num / den` to the nearest integer, ties to even. -/
def roundHalfEven (num den : Nat) : Nat :=
  let q := num / den
  let r := num % den
  if 2 * r < den then q
  else if den < 2 * r then q + 1
  else if q % 2 = 0 then q else q + 1

/-- The low 63 bits of the binary64 number nearest to the positive rational `num / den`, ties to even; the
infinity pattern where the result overflows. With the unit in the last place 2^(u - 1074), the rounded quotient
`q` is encoded as `u * 2^52 + q`: a carry of the significand moves into the exponent field by itself. -/
def roundMagBits (num den : Nat) : Nat :=
  let u := binade num den - 52
  let q := roundHalfEven (num * 2 ^ 1074) (den * 2 ^ u)
  min (u * 2 ^ 52 + q) (2047 * 2 ^ 52)

/-- A pattern from its sign and its low 63 bits. -/
def F64.pack (neg : Bool) (mag : Nat) : F64 :=
  BitVec.ofNat 64 ((if neg then 2 ^ 63 else 0) + mag)

/-- Signed zero. -/
def F64.zero (neg : Bool) : F64 := F64.pack neg 0

/-- Signed infinity. -/
def F64.infinity (neg : Bool) : F64 := F64.pack neg (2047 * 2 ^ 52)

/-- A quiet NaN of free sign and payload (log 11); the datapath reaches none (R247, R252, R262). -/
def F64.nan : F64 := Config.freeNaN ||| 0x7FF8000000000000

/-- An exact rational rounded once to binary64, nearest-even (R16). `zeroNeg` is the sign of an exact zero. -/
def F64.round (zeroNeg : Bool) (q : ℚ) : F64 :=
  if q.num = 0 then F64.zero zeroNeg
  else F64.pack (decide (q.num < 0)) (roundMagBits q.num.natAbs q.den)

/-- `f64(n)` of R16: an integer converted (exactly, for every integer the BCB converts). -/
def F64.ofInt (n : Int) : F64 := F64.round false (n : ℚ)

/-- `a + b` (R16): exact sum rounded once; an exact zero sum is -0.0 only if both operands are negative. -/
def F64.add (a b : F64) : F64 :=
  match F64.unpack a, F64.unpack b with
  | .fin sa x, .fin sb y => F64.round (sa && sb) (x + y)
  | .inf sa, .fin _ _ => F64.infinity sa
  | .fin _ _, .inf sb => F64.infinity sb
  | .inf sa, .inf sb => if sa = sb then F64.infinity sa else F64.nan
  | _, _ => F64.nan

/-- The sign bit flipped. -/
def F64.neg (a : F64) : F64 := a ^^^ 0x8000000000000000

/-- `a - b` (R16): `a + (-b)`. -/
def F64.sub (a b : F64) : F64 := F64.add a (F64.neg b)

/-- `a * b` (R16): exact product rounded once; the sign is the exclusive or of the signs. -/
def F64.mul (a b : F64) : F64 :=
  match F64.unpack a, F64.unpack b with
  | .fin sa x, .fin sb y => F64.round (sa != sb) (x * y)
  | .inf sa, .fin sb y => if y = 0 then F64.nan else F64.infinity (sa != sb)
  | .fin sa x, .inf sb => if x = 0 then F64.nan else F64.infinity (sa != sb)
  | .inf sa, .inf sb => F64.infinity (sa != sb)
  | _, _ => F64.nan

/-- `a / b` (R16): exact quotient rounded once; the sign is the exclusive or of the signs. -/
def F64.div (a b : F64) : F64 :=
  match F64.unpack a, F64.unpack b with
  | .fin sa x, .fin sb y =>
    if y = 0 then (if x = 0 then F64.nan else F64.infinity (sa != sb))
    else F64.round (sa != sb) (x / y)
  | .inf sa, .fin sb _ => F64.infinity (sa != sb)
  | .fin sa _, .inf sb => F64.zero (sa != sb)
  | _, _ => F64.nan

/-- The comparison `a < b` of IEEE 754: false where either is a NaN; -0.0 and +0.0 are equal. -/
def F64.lt (a b : F64) : Bool :=
  match F64.unpack a, F64.unpack b with
  | .fin _ x, .fin _ y => decide (x < y)
  | .inf sa, .fin _ _ => sa
  | .fin _ _, .inf sb => !sb
  | .inf sa, .inf sb => sa && !sb
  | _, _ => false

/-- IEEE equality with zero: true of +0.0 and -0.0 (R251). -/
def F64.isZero (a : F64) : Bool :=
  match F64.unpack a with
  | .fin _ x => decide (x = 0)
  | _ => false

/-- `floor(x)` of R16. -/
def F64.floor (a : F64) : Int :=
  match F64.unpack a with
  | .fin _ x => x.floor
  | _ => Config.nonFiniteToInt a

/-- `trunc(x)` of R16: rounds toward zero. -/
def F64.trunc (a : F64) : Int :=
  match F64.unpack a with
  | .fin _ x => x.num.tdiv x.den
  | _ => Config.nonFiniteToInt a

/-! ## The literals of the datapath (R16: each the exact binary64 value of its decimal) -/

/-- A literal of the pseudocode that is a whole number. -/
def F64.lit (n : Nat) : F64 := F64.ofInt n

end Sys2Proof.Machine
end

