-- ==== Sys2Proof/Machine/CompDouble.lean ====
section
/-! DEFINITION. The compensation datapath in binary64 (42_compensation_double.md): R245, R246, R250, R251, R260,
R261. Pure functions (R266); every operation of the pseudocode is one binary64 operation, in its order (R16). -/

namespace Sys2Proof.Machine

/-- `var1` of R245. -/
def tVar1 (rawT : BitVec 20) (c : Cal) : F64 :=
  F64.mul
    (F64.sub (F64.div (F64.ofInt rawT.toNat) (F64.lit 16384)) (F64.div (F64.ofInt (Cal.t1 c)) (F64.lit 1024)))
    (F64.ofInt (Cal.t2 c))

/-- `var2` of R245: the square of one rounded difference. -/
def tVar2 (rawT : BitVec 20) (c : Cal) : F64 :=
  let a := F64.sub (F64.div (F64.ofInt rawT.toNat) (F64.lit 131072))
    (F64.div (F64.ofInt (Cal.t1 c)) (F64.lit 8192))
  F64.mul (F64.mul a a) (F64.ofInt (Cal.t3 c))

/-- The sum `s = var1 + var2` of R245. -/
def tSum (rawT : BitVec 20) (c : Cal) : F64 := F64.add (tVar1 rawT c) (tVar2 rawT c)

/-- `tfine_round(s)` (R246). -/
def tfineRound (r : TfineRounding) (x : F64) : Int :=
  match r with
  | .floor => F64.floor x
  | .trunc => F64.trunc x

/-- `T_NEW` of R245, from the unrounded sum. -/
def tNewOf (sum : F64) : F64 := F64.div sum (F64.lit 5120)

/-- `v1` of R250's first line. -/
def pV1 (tfine : Int) : F64 := F64.sub (F64.div (F64.ofInt tfine) (F64.lit 2)) (F64.lit 64000)

/-- `v2` of R250 after its fourth line. -/
def pV2 (tfine : Int) (c : Cal) : F64 :=
  let v1 := pV1 tfine
  let a := F64.div (F64.mul (F64.mul v1 v1) (F64.ofInt (Cal.p6 c))) (F64.lit 32768)
  let b := F64.add a (F64.mul (F64.mul v1 (F64.ofInt (Cal.p5 c))) (F64.lit 2))
  F64.add (F64.div b (F64.lit 4)) (F64.mul (F64.ofInt (Cal.p4 c)) (F64.lit 65536))

/-- The denominator `v1` of R250 after its sixth line. -/
def pDenominator (sgn : Signedness) (tfine : Int) (c : Cal) : F64 :=
  let v1 := pV1 tfine
  let cubic := F64.div (F64.mul (F64.mul (F64.ofInt (Cal.p3 c)) v1) v1) (F64.lit 524288)
  let w := F64.div (F64.add cubic (F64.mul (F64.ofInt (Cal.p2 c)) v1)) (F64.lit 524288)
  F64.mul (F64.add (F64.lit 1) (F64.div w (F64.lit 32768))) (F64.ofInt (Cal.p1 sgn c))

/-- `P_NEW` of R250 where the denominator is not zero. -/
def pQuotient (den : F64) (tfine : Int) (rawP : BitVec 20) (c : Cal) : F64 :=
  let p0 := F64.sub (F64.lit 1048576) (F64.ofInt rawP.toNat)
  let p := F64.div (F64.mul (F64.sub p0 (F64.div (pV2 tfine c) (F64.lit 4096))) (F64.lit 6250)) den
  let v1 := F64.div (F64.mul (F64.mul (F64.ofInt (Cal.p9 c)) p) p) (F64.lit 2147483648)
  let v2 := F64.div (F64.mul p (F64.ofInt (Cal.p8 c))) (F64.lit 32768)
  F64.add p (F64.div (F64.add (F64.add v1 v2) (F64.ofInt (Cal.p7 c))) (F64.lit 16))

/-- `P_NEW` of R250 and R251: +0.0, with no division, where the denominator equals 0.0. -/
def pNewOf (sgn : Signedness) (tfine : Int) (rawP : BitVec 20) (c : Cal) : F64 :=
  let den := pDenominator sgn tfine c
  if F64.isZero den then F64.zero false else pQuotient den tfine rawP c

/-- The humidity of R260 before the clamp. -/
def hUnclamped (tfine : Int) (rawH : BitVec 16) (c : Cal) : F64 :=
  let h := F64.sub (F64.ofInt tfine) (F64.lit 76800)
  let inner := F64.add (F64.mul (F64.ofInt (Cal.h4 c)) (F64.lit 64))
    (F64.mul (F64.div (F64.ofInt (Cal.h5 c)) (F64.lit 16384)) h)
  let left := F64.sub (F64.ofInt rawH.toNat) inner
  let h6 := F64.mul (F64.div (F64.ofInt (Cal.h6 c)) (F64.lit 67108864)) h
  let h3 := F64.mul (F64.div (F64.ofInt (Cal.h3 c)) (F64.lit 67108864)) h
  let right := F64.mul (F64.div (F64.ofInt (Cal.h2 c)) (F64.lit 65536))
    (F64.add (F64.lit 1) (F64.mul h6 (F64.add (F64.lit 1) h3)))
  let g := F64.mul left right
  F64.mul g (F64.sub (F64.lit 1) (F64.div (F64.mul (F64.ofInt (Cal.h1 c)) g) (F64.lit 524288)))

/-- The clamp of R260 and R261: first `> 100.0`, then `< 0.0`; -0.0 passes. -/
def hClamp (h : F64) : F64 :=
  if F64.lt (F64.lit 100) h then F64.lit 100
  else if F64.lt h (F64.zero false) then F64.zero false
  else h

/-- `H_NEW` of R260. -/
def hNewOf (tfine : Int) (rawH : BitVec 16) (c : Cal) : F64 := hClamp (hUnclamped tfine rawH c)

end Sys2Proof.Machine
end

