-- ==== Sys2Proof/Machine/CompFixed.lean ====
section
/-! DEFINITION. The compensation datapath in integers (43_compensation_fixed.md): R281, R285, R290, R295, and the
conversion of the integer words to binary64 (R300). Each operation wraps where its pseudocode says (R280). -/

namespace Sys2Proof.Machine

/-- TFINE of R281. -/
def tfineFixed (rawT : BitVec 20) (c : Cal) : Int :=
  let raw : Int := rawT.toNat
  let d1 := wrap32 (asr raw 3 - shl32 (Cal.t1 c) 1)
  let var1 := asr (wrap32 (d1 * Cal.t2 c)) 11
  let d2 := wrap32 (asr raw 4 - Cal.t1 c)
  let var2 := asr (wrap32 (asr (wrap32 (d2 * d2)) 12 * Cal.t3 c)) 14
  wrap32 (var1 + var2)

/-- T_INT of R281, in hundredths of a degree. -/
def tIntOf (tfine : Int) : Int := asr (wrap32 (wrap32 (tfine * 5) + 128)) 8

/-- `T_NEW = T_INT / 100.0` (R281, R300). -/
def tNewFixed (tInt : Int) : F64 := F64.div (F64.ofInt tInt) (F64.lit 100)

/-- `v2` of R285 after its fourth line. -/
def pV2Int64 (tfine : Int) (c : Cal) : Int :=
  let v1 := wrap64 (tfine - 128000)
  let a := wrap64 (wrap64 (v1 * v1) * Cal.p6 c)
  let b := wrap64 (a + shl64 (wrap64 (v1 * Cal.p5 c)) 17)
  wrap64 (b + shl64 (Cal.p4 c) 35)

/-- The denominator `v1` of R285 after its sixth line. -/
def pDenominatorInt64 (sgn : Signedness) (tfine : Int) (c : Cal) : Int :=
  let v1 := wrap64 (tfine - 128000)
  let w := wrap64 (asr (wrap64 (wrap64 (v1 * v1) * Cal.p3 c)) 8 + shl64 (wrap64 (v1 * Cal.p2 c)) 12)
  asr (wrap64 (wrap64 (shl64 1 47 + w) * Cal.p1 sgn c)) 33

/-- P_INT of R285, Pa in Q24.8. -/
def pIntOf64 (sgn : Signedness) (tfine : Int) (rawP : BitVec 20) (c : Cal) : Int :=
  let den := pDenominatorInt64 sgn tfine c
  if den = 0 then 0
  else
    let p0 : Int := 1048576 - rawP.toNat
    let p := tdiv64 (wrap64 (wrap64 (shl64 p0 31 - pV2Int64 tfine c) * 3125)) den
    let v1 := asr (wrap64 (wrap64 (Cal.p9 c * asr p 13) * asr p 13)) 25
    let v2 := asr (wrap64 (Cal.p8 c * p)) 19
    let q := wrap64 (asr (wrap64 (wrap64 (p + v1) + v2)) 8 + shl64 (Cal.p7 c) 4)
    uwrap32 q

/-- `P_NEW = P_INT / 256.0` (R285, R300). -/
def pNewFixed64 (pInt : Int) : F64 := F64.div (F64.ofInt pInt) (F64.lit 256)

/-- `v2` of R290 after its fifth line. -/
def pV2Int32 (tfine : Int) (c : Cal) : Int :=
  let v1 := wrap32 (asr tfine 1 - 64000)
  let q := wrap32 (asr v1 2 * asr v1 2)
  let a := wrap32 (asr q 11 * Cal.p6 c)
  let b := wrap32 (a + shl32 (wrap32 (v1 * Cal.p5 c)) 1)
  wrap32 (asr b 2 + shl32 (Cal.p4 c) 16)

/-- The denominator `v1` of R290 after its seventh line. -/
def pDenominatorInt32 (sgn : Signedness) (tfine : Int) (c : Cal) : Int :=
  let v1 := wrap32 (asr tfine 1 - 64000)
  let q := wrap32 (asr v1 2 * asr v1 2)
  let w := asr (wrap32 (asr (wrap32 (Cal.p3 c * asr q 13)) 3 + asr (wrap32 (Cal.p2 c * v1)) 1)) 18
  asr (wrap32 (wrap32 (32768 + w) * Cal.p1 sgn c)) 15

/-- P_INT of R290, whole Pa. -/
def pIntOf32 (sgn : Signedness) (tfine : Int) (rawP : BitVec 20) (c : Cal) : Int :=
  let den := pDenominatorInt32 sgn tfine c
  if den = 0 then 0
  else
    let u0 := uwrap32 (uwrap32 (1048576 - rawP.toNat) - asr (pV2Int32 tfine c) 12)
    let u1 := uwrap32 (u0 * 3125)
    let u :=
      if u1 < 0x80000000 then udiv (uwrap32 (u1 * 2)) (uwrap32 den)
      else uwrap32 (udiv u1 (uwrap32 den) * 2)
    let v1 := asr (wrap32 (Cal.p9 c * wrap32 (lsr (uwrap32 (lsr u 3 * lsr u 3)) 13))) 12
    let v2 := asr (wrap32 (wrap32 (lsr u 2) * Cal.p8 c)) 13
    uwrap32 (wrap32 u + asr (wrap32 (wrap32 (v1 + v2) + Cal.p7 c)) 4)

/-- `P_NEW = P_INT` (R290, R300). -/
def pNewFixed32 (pInt : Int) : F64 := F64.ofInt pInt

/-- The value of R295 before its clamp. -/
def hFixedUnclamped (tfine : Int) (rawH : BitVec 16) (c : Cal) : Int :=
  let x := wrap32 (tfine - 76800)
  let a0 := wrap32 (wrap32 (shl32 rawH.toNat 14 - shl32 (Cal.h4 c) 20) - wrap32 (Cal.h5 c * x))
  let a := asr (wrap32 (a0 + 16384)) 15
  let b0 := asr (wrap32 (x * Cal.h6 c)) 10
  let k := wrap32 (asr (wrap32 (x * Cal.h3 c)) 11 + 32768)
  let b1 := wrap32 (asr (wrap32 (b0 * k)) 10 + 2097152)
  let b := asr (wrap32 (wrap32 (b1 * Cal.h2 c) + 8192)) 14
  let y := wrap32 (a * b)
  let t0 := asr y 15
  let t1 := asr (wrap32 (t0 * t0)) 7
  let t2 := asr (wrap32 (t1 * Cal.h1 c)) 4
  wrap32 (y - t2)

/-- H_INT of R295, %RH in Q22.10: the clamp to [0, 419430400], then the shift. -/
def hIntOf (tfine : Int) (rawH : BitVec 16) (c : Cal) : Int :=
  let x := hFixedUnclamped tfine rawH c
  let y := if x < 0 then 0 else x
  let z := if y > 419430400 then 419430400 else y
  asr z 12

/-- `H_NEW = H_INT / 1024.0` (R295, R300). -/
def hNewFixed (hInt : Int) : F64 := F64.div (F64.ofInt hInt) (F64.lit 1024)

end Sys2Proof.Machine
end

