-- ==== Sys2Proof/Machine/Datapath.lean ====
section
/-! DEFINITION. The meanings of CHKRSV, DECODE, COMPT, COMPP and COMPH (42_compensation_double.md; the integer
variants of 43_compensation_fixed.md by COMP_VARIANT, R268). -/

namespace Sys2Proof.Machine

/-- The low nibble of a burst byte (R131). -/
def lowNibble (b : Byte) : BitVec 4 := b.extractLsb' 0 4

/-- CHKRSV (R241): both reserved nibbles of the burst must be zero. -/
def execChkrsv (s : State) : Res :=
  need .bufd (byteAt s.bufd 2) fun b2 =>
    need .bufd (byteAt s.bufd 5) fun b5 =>
      if lowNibble b2 ≠ 0 ∨ lowNibble b5 ≠ 0 then raiseError (.reserved (lowNibble b2) (lowNibble b5)) s
      else advance s

/-- A 20-bit count from three burst bytes, most significant first (R130, R240). -/
def count20 (b0 b1 b2 : Byte) : BitVec 20 := BitVec.ofNat 20 (b0.toNat * 4096 + b1.toNat * 16 + b2.toNat / 16)

/-- The 16-bit count from two burst bytes, most significant first (R130, R240). -/
def count16 (b6 b7 : Byte) : BitVec 16 := BitVec.ofNat 16 (b6.toNat * 256 + b7.toNat)

/-- DECODE (R240). -/
def execDecode (s : State) : Res :=
  need .bufd (byteAt s.bufd 0) fun b0 => need .bufd (byteAt s.bufd 1) fun b1 =>
  need .bufd (byteAt s.bufd 2) fun b2 => need .bufd (byteAt s.bufd 3) fun b3 =>
  need .bufd (byteAt s.bufd 4) fun b4 => need .bufd (byteAt s.bufd 5) fun b5 =>
  need .bufd (byteAt s.bufd 6) fun b6 => need .bufd (byteAt s.bufd 7) fun b7 =>
    advance
      { s with
        rawP := some (count20 b0 b1 b2)
        rawT := some (count20 b3 b4 b5)
        rawH := some (count16 b6 b7)
        rawGen := s.rawGen + 1 }

/-- TFINE and T_NEW by COMP_VARIANT (R245, R246, R281), and T_INT where the variant has one (R300). -/
def tempResult (p : BcbConfig) (rawT : BitVec 20) (c : Cal) : Int × F64 × Option Int :=
  match p.compVariant with
  | .double =>
    let sum := tSum rawT c
    (tfineRound p.tfineRounding sum, tNewOf sum, none)
  | .int64p | .int32p =>
    let f := tfineFixed rawT c
    (f, tNewFixed (tIntOf f), some (tIntOf f))

/-- P_NEW by COMP_VARIANT (R250, R285, R290), and P_INT where the variant has one (R300). -/
def pressResult (p : BcbConfig) (tfine : Int) (rawP : BitVec 20) (c : Cal) : F64 × Option Int :=
  match p.compVariant with
  | .double => (pNewOf p.p1Signedness tfine rawP c, none)
  | .int64p =>
    let w := pIntOf64 p.p1Signedness tfine rawP c
    (pNewFixed64 w, some w)
  | .int32p =>
    let w := pIntOf32 p.p1Signedness tfine rawP c
    (pNewFixed32 w, some w)

/-- H_NEW by COMP_VARIANT (R260, R295), and H_INT where the variant has one (R300). -/
def humResult (p : BcbConfig) (tfine : Int) (rawH : BitVec 16) (c : Cal) : F64 × Option Int :=
  match p.compVariant with
  | .double => (hNewOf tfine rawH c, none)
  | .int64p | .int32p =>
    let w := hIntOf tfine rawH c
    (hNewFixed w, some w)

/-- An integer word after a compensation: the variant's word, or what it was (R300). -/
def keepWord (w : Option Int) (old : Option (BitVec 32)) : Option (BitVec 32) :=
  match w with
  | some v => some (BitVec.ofInt 32 v)
  | none => old

/-- COMPT (R245, R281). -/
def execCompt (s : State) : Res :=
  need .rawT s.rawT fun raw =>
    need .cal s.cal fun c =>
      advance
        { s with
          tfine := some (BitVec.ofInt 32 (tempResult s.cfg raw c).1)
          tNew := some (tempResult s.cfg raw c).2.1
          tInt := keepWord (tempResult s.cfg raw c).2.2 s.tInt
          tfineGen := s.rawGen }

/-- The precondition of COMPP and COMPH: TFINE belongs to the raw sample (R38, R250, R260). It is checked before
any operand is read (log 12). -/
def needTfineOf (s : State) (k : Res) : Res := if s.tfineGen = s.rawGen then k else .fault .tfineMismatch

/-- COMPP (R250, R285, R290). DESIGN CHOICE, log 12 (unsafe only for a claim about which fault stops it): RAW_P is
read before CAL and always, as the rules' operand lines list it; their pseudocode uses the coefficients first and RAW_P
only where the denominator is not zero. -/
def execCompp (s : State) : Res :=
  needTfineOf s <|
    need .tfine s.tfine fun f =>
      need .rawP s.rawP fun raw =>
        need .cal s.cal fun c =>
          advance
            { s with
              pNew := some (pressResult s.cfg f.toInt raw c).1
              pInt := keepWord (pressResult s.cfg f.toInt raw c).2 s.pInt }

/-- COMPH (R260, R295). -/
def execComph (s : State) : Res :=
  needTfineOf s <|
    need .tfine s.tfine fun f =>
      need .rawH s.rawH fun raw =>
        need .cal s.cal fun c =>
          advance
            { s with
              hNew := some (humResult s.cfg f.toInt raw c).1
              hInt := keepWord (humResult s.cfg f.toInt raw c).2 s.hInt }

end Sys2Proof.Machine
end

