-- ==== Sys2Proof/Machine/HostCmds.lean ====
section
/-! DEFINITION. The meanings of the five host commands (44_controller.md R320 to R327). -/

namespace Sys2Proof.Machine

/-- A host command that needs BUSY = 0 (R320). While BUSY = 1 the spec gives no move (R403; log 9). -/
def whenIdle (s : State) (r : Res) : Res := if s.busy then .refused .commandWhileBusy else r

/-- Acceptance of a command that the sequencer runs: BUSY, CMD and the entry point (R321, R322, R423). -/
def acceptCommand (c : HostCmd) (entry : Byte) (s : State) : State :=
  { s with busy := true, cmd := some c, upc := some entry }

/-- RESET's entry point (R321). -/
def resetEntry : Byte := 0x00

/-- REFRESH's entry point (R322). -/
def refreshEntry : Byte := 0x18

/-- A READ_* command: NotReady while SAMPLE_VALID = 0, otherwise the value is returned and ERR is NONE (R323). -/
def readSample (code : Byte) (e : Element) (sample : Option F64) (s : State) : Res :=
  if s.sampleValid then
    need e sample fun v =>
      .next { s with err := .none, hostReturns := s.hostReturns ++ [{ code := code, value := v }] }
  else .next (notReady code s)

/-- RESET (R321): accepted in every STATE. -/
def execReset (s : State) : Res := whenIdle s (.next (acceptCommand .reset resetEntry s))

/-- REFRESH (R322): accepted in READY, otherwise NotReady (R327). -/
def execRefresh (s : State) : Res :=
  whenIdle s
    (if s.lifeState = .ready then .next (acceptCommand .refresh refreshEntry s) else .next (notReady 0x02 s))

/-- READ_T (R323). -/
def execReadT (s : State) : Res := whenIdle s (readSample 0x03 .sampleT s.sampleT s)

/-- READ_P (R324). -/
def execReadP (s : State) : Res := whenIdle s (readSample 0x04 .sampleP s.sampleP s)

/-- READ_H (R325). -/
def execReadH (s : State) : Res := whenIdle s (readSample 0x05 .sampleH s.sampleH s)

end Sys2Proof.Machine
end

