-- ==== Sys2Proof/Machine/Wire.lean ====
section
/-! DEFINITION. The meanings of the wire transactions (40_bus_transactions.md sections 1 and 2). Presented directly to
the bus engine, a transaction has no effect on BCB state but its result, which the model keeps in `wireResult`
(R165; log 7); an error is raised (R160): it aborts the running command (R380), or, where no command runs, is
recorded and nothing else (log 7). -/

namespace Sys2Proof.Machine

/-- An error of a transaction presented directly: the abort of the running command (R380), or the record alone
where BUSY = 0 and there is no command to abort (log 7). -/
def surfaceError (info : ErrInfo) (s : State) : Res :=
  if s.busy then raiseError info s
  else .next { s with err := errKindOf info, errInfo := some info }

/-- A transaction run for itself: its result goes on to `k` (R165). -/
def runDirect {α : Type} (t : Tx α) (k : α → State → Res) : Res :=
  match t with
  | .done v s => k v s
  | .raised info s => surfaceError info s
  | .faulted f => .fault f

/-- A transaction with no result, run for itself (R165). -/
def runWrite (t : Tx Unit) : Res := runDirect t fun _ s => .next s

/-- A read transaction run for itself: its bytes are its result (R165). -/
def runRead (t : Tx (List Byte)) : Res := runDirect t fun d s => .next { s with wireResult := some d }

/-- A burst of a legal length, 1 to 32 (R113, R163). -/
def runBurst (a : Byte) (n : Nat) (s : State) : Res :=
  if 1 ≤ n ∧ n ≤ 32 then runRead (readBlockTx a n s) else .refused (.burstLength n)

/-- WriteRegister(a, v) (R161). -/
def execWriteRegister (a v : Byte) (s : State) : Res := runWrite (writeRegisterTx a v s)

/-- ReadRegister(a) (R162). -/
def execReadRegister (a : Byte) (s : State) : Res := runRead (readRegisterTx a s)

/-- ReadBlock(a, n) (R163). -/
def execReadBlock (a : Byte) (n : Nat) (s : State) : Res := runBurst a n s

/-- Bind(SLAVE_ADDR) (R164). -/
def execBindSession (s : State) : Res := runWrite (bindTx s)

/-- RD_CHIP_ID (R166). -/
def execRdChipId (s : State) : Res := runRead (readRegisterTx s.cfg.regChipId s)

/-- WR_SOFT_RESET (R167). -/
def execWrSoftReset (s : State) : Res := runWrite (writeRegisterTx s.cfg.regSoftReset s.cfg.softResetCmd s)

/-- RD_STATUS (R168). -/
def execRdStatus (s : State) : Res := runRead (readRegisterTx s.cfg.regStatus s)

/-- RD_CAL1 (R169). -/
def execRdCal1 (s : State) : Res := runBurst s.cfg.regCal1 s.cfg.cal1Len.toNat s

/-- RD_CAL2 (R170). -/
def execRdCal2 (s : State) : Res := runBurst s.cfg.regCal2 s.cfg.cal2Len.toNat s

/-- WR_CTRL_HUM (R171). -/
def execWrCtrlHum (s : State) : Res := runWrite (writeRegisterTx s.cfg.regCtrlHum s.cfg.ctrlHumValue s)

/-- WR_CTRL_MEAS_CFG (R172). -/
def execWrCtrlMeasCfg (s : State) : Res :=
  runWrite (writeRegisterTx s.cfg.regCtrlMeas s.cfg.ctrlMeasConfigValue s)

/-- WR_CONFIG (R173). -/
def execWrConfig (s : State) : Res := runWrite (writeRegisterTx s.cfg.regConfig s.cfg.configValue s)

/-- WR_CTRL_MEAS_FORCED (R174). -/
def execWrCtrlMeasForced (s : State) : Res :=
  runWrite (writeRegisterTx s.cfg.regCtrlMeas s.cfg.ctrlMeasForcedValue s)

/-- RD_DATA (R175). -/
def execRdData (s : State) : Res := runBurst s.cfg.regData s.cfg.dataLen.toNat s

end Sys2Proof.Machine
end

