-- ==== Sys2Proof/Machine/Dispatch.lean ====
section
/-! DEFINITION. The dispatch: one arm per instruction, each one call of its meaning. -/

namespace Sys2Proof.Machine
open Sys2Proof

def exec (i : Instr) (s : State) : Host.Outcome State Fault Refusal :=
  match i with
  -- host commands
  | .reset => Sys2Proof.Machine.execReset s
  | .refresh => Sys2Proof.Machine.execRefresh s
  | .readT => Sys2Proof.Machine.execReadT s
  | .readP => Sys2Proof.Machine.execReadP s
  | .readH => Sys2Proof.Machine.execReadH s
  -- wire transactions
  | .writeRegister a v => Sys2Proof.Machine.execWriteRegister a v s
  | .readRegister a => Sys2Proof.Machine.execReadRegister a s
  | .readBlock a n => Sys2Proof.Machine.execReadBlock a n s
  | .bindSession => Sys2Proof.Machine.execBindSession s
  | .rdChipId => Sys2Proof.Machine.execRdChipId s
  | .wrSoftReset => Sys2Proof.Machine.execWrSoftReset s
  | .rdStatus => Sys2Proof.Machine.execRdStatus s
  | .rdCal1 => Sys2Proof.Machine.execRdCal1 s
  | .rdCal2 => Sys2Proof.Machine.execRdCal2 s
  | .wrCtrlHum => Sys2Proof.Machine.execWrCtrlHum s
  | .wrCtrlMeasCfg => Sys2Proof.Machine.execWrCtrlMeasCfg s
  | .wrConfig => Sys2Proof.Machine.execWrConfig s
  | .wrCtrlMeasForced => Sys2Proof.Machine.execWrCtrlMeasForced s
  | .rdData => Sys2Proof.Machine.execRdData s
  -- micro-operations
  | .endCmd => Sys2Proof.Machine.execEndCmd s
  | .bind => Sys2Proof.Machine.execBind s
  | .wr a v => Sys2Proof.Machine.execWr a v s
  | .rd a => Sys2Proof.Machine.execRd a s
  | .rdb a n buf => Sys2Proof.Machine.execRdb a n buf s
  | .chkid v => Sys2Proof.Machine.execChkid v s
  | .pinit => Sys2Proof.Machine.execPinit s
  | .pwait => Sys2Proof.Machine.execPwait s
  | .bbusy m l => Sys2Proof.Machine.execBbusy m l s
  | .call l => Sys2Proof.Machine.execCall l s
  | .ret => Sys2Proof.Machine.execRet s
  | .setst st => Sys2Proof.Machine.execSetst st s
  | .pcal => Sys2Proof.Machine.execPcal s
  | .chkrsv => Sys2Proof.Machine.execChkrsv s
  | .decode => Sys2Proof.Machine.execDecode s
  | .compt => Sys2Proof.Machine.execCompt s
  | .compp => Sys2Proof.Machine.execCompp s
  | .comph => Sys2Proof.Machine.execComph s
  | .commit => Sys2Proof.Machine.execCommit s

end Sys2Proof.Machine
end

