-- ==== Sys2Proof/Machine/Fetch.lean ====
section
/-! DEFINITION. What runs next and where it is read from (44_controller.md R320, R330): frames presented directly to
the bus engine, the micro-ROM word at UPC while BUSY = 1, or the host's next command while BUSY = 0; and the
observer's event of a micro-step (60_exceptions.md R408). -/

namespace Sys2Proof.Machine

/-- What a step has found to do. -/
inductive Fetched where
  /-- Run an instruction on a state; the observer names a micro-step by its UPC and OP (R408). -/
  | run (i : Instr) (s : State) (watch : Option (Byte × Byte))
  /-- Nothing to run: no command is running and the host issues none (R403). -/
  | idle
  /-- A model fault of the fetch (R389). -/
  | stop (f : Fault)
  /-- A refusal of the fetch (R389). -/
  | refuse (r : Refusal)
deriving DecidableEq, Repr

/-- The micro-instruction at UPC (R330): a hole is RomOverrun (R334), an illegal word IllegalMicroOp (R147). -/
def fetchMicro (s : State) : Fetched :=
  match s.upc with
  | none => .stop (.unwrittenRead .upc)
  | some u =>
    match Memory.read s.rom u.toNat with
    | none => .stop .romOverrun
    | some w =>
      match decodeMicro w with
      | .ok i => .run i s (some (u, opField w))
      | .error _ => .stop .illegalMicroOp

/-- The host's next command (R320); a reserved code is refused (R326). -/
def fetchHost (s : State) : Fetched :=
  match s.hostQueue with
  | [] => .idle
  | code :: rest =>
    match decodeHost code with
    | .ok i => .run i { s with hostQueue := rest } none
    | .error _ => .refuse (.reservedHostCode code)

/-- The transaction of the frames presented directly to the bus engine (log 6). -/
def fetchWire (s : State) : Fetched :=
  match decodeWire s.cfg s.wireQueue with
  | .ok i => .run i { s with wireQueue := [] } none
  | .error _ => .refuse .notATransaction

/-- What runs next (R320, R330). A parameter record the spec does not admit is refused (R389). -/
def fetch (s : State) : Fetched :=
  if paramsAdmitted s.cfg then
    if s.wireQueue ≠ [] then fetchWire s
    else if s.busy then fetchMicro s
    else fetchHost s
  else .refuse .parametersNotAdmitted

/-- The event is a transfer (R408). -/
def isTransfer : BusEvent → Bool
  | .write _ _ => true
  | .read _ _ => true
  | .bind _ _ => false
  | .sleep _ => false

/-- The state with the observer's event of a micro-step added, if OBSERVER is on: UPC, OP and the transfers the
step put on the bus trace of `before` (R408). -/
def observe (before : State) (watch : Option (Byte × Byte)) (t : State) : State :=
  match watch with
  | none => t
  | some (u, op) =>
    if before.cfg.observer then
      { t with
        observerLog := t.observerLog ++
          [{ upc := u, op := op
             transfers := (t.bus.trace.drop before.bus.trace.length).filter isTransfer }] }
    else t

/-- An outcome with the observer's event added to its next state; a fault or a refusal is unchanged. -/
def observed (before : State) (watch : Option (Byte × Byte)) (r : Res) : Res :=
  match r with
  | .next t => .next (observe before watch t)
  | .fault f => .fault f
  | .refused q => .refused q

/-- The state with a code placed where the next step reads it (log 6): a host code at the head of the command
queue with no command running, frames on the direct port, a micro word in the ROM at UPC with a command running. -/
def placeCode (c : Code) (s : State) : State :=
  match c with
  | .host code => { s with wireQueue := [], busy := false, hostQueue := code :: s.hostQueue }
  | .wire frames => { s with wireQueue := frames }
  | .micro w =>
    { s with
      wireQueue := []
      busy := true
      cmd := some (s.cmd.getD .reset)
      upc := some (s.upc.getD 0)
      rom := Memory.write s.rom (s.upc.getD 0).toNat w }

end Sys2Proof.Machine
end

