-- ==== Sys2Proof/Machine/Step.lean ====
section
/-! DEFINITION. One step of the machine (44_controller.md R320, R330): fetch, run, and the observer's event. -/

namespace Sys2Proof.Machine

/-- One step: a micro-step while BUSY = 1, a host step while BUSY = 0 (R320). With no command running and none
issued the state stays as it is. -/
def step (s : State) : Host.Outcome State Fault Refusal :=
  match fetch s with
  | .run i t watch => observed t watch (exec i t)
  | .idle => .next s
  | .stop f => .fault f
  | .refuse r => .refused r

/-- The state with an opcode-table word placed where the next step fetches it (log 6, log 19). -/
def State.withFetchWord (s : State) (nbits w : Nat) : State := placeCode (tableCode nbits w) s

end Sys2Proof.Machine
end

