-- ==== Sys2Proof/Machine/Observation.lean ====
section
/-! DEFINITION. The end of a run and the observation there (70_reset_and_hazards.md R443). No meaning reads any of
it. A fault or a refusal is an outcome and not a state (log 2), so no state carries one; a state from which the
fetch refuses is no end either. -/

namespace Sys2Proof.Machine

/-- A state at which a run has ended (R443): the host's commands are exhausted, BUSY = 0, and nothing is refused: the
parameter record is admitted (R389), and no frames wait on the model's direct port (log 6). -/
def atEnd (s : State) : Bool :=
  decide (s.hostQueue = []) && !s.busy && paramsAdmitted s.cfg && decide (s.wireQueue = [])

/-- The end of a run from `s` (R443): the first state at which it has ended, looked for over at most `n` steps. `none`
if a fault or a refusal comes first, or if there is no end within `n` steps. -/
def endOfRun : Nat → State → Option State
  | 0, s => if atEnd s then some s else none
  | n + 1, s =>
    if atEnd s then some s
    else
      match step s with
      | .next t => endOfRun n t
      | .fault _ => none
      | .refused _ => none

/-- The committed sample, SAMPLE_T, SAMPLE_P and SAMPLE_H (R40). -/
structure Sample where
  t : F64
  p : F64
  h : F64
deriving DecidableEq, Repr

/-- The sample the host may see: SAMPLE_* when SAMPLE_VALID = 1, otherwise nothing (R443). -/
def State.visibleSample (s : State) : Option Sample :=
  if s.sampleValid then
    s.sampleT.bind fun t => s.sampleP.bind fun p => s.sampleH.map fun h => { t := t, p := p, h := h }
  else none

/-- The duration of a Sleep event, in milliseconds; `none` for an event of the bus (R337). -/
def sleepOf : BusEvent → Option Nat
  | .sleep ms => some ms
  | .bind _ _ => none
  | .write _ _ => none
  | .read _ _ => none

/-- What is observed at the end of a run (R443). -/
structure Observation where
  /-- HSTS (R44). -/
  hsts : BitVec 16
  /-- ERRINFO, if written (R46). -/
  errInfo : Option ErrInfo
  /-- SAMPLE_T, SAMPLE_P and SAMPLE_H when SAMPLE_VALID = 1. -/
  sample : Option Sample
  /-- The values the READ_* commands returned, in order. -/
  returns : List HostReturn
  /-- The bus trace: the transfers with their counts and bytes, and BIND where R353 shows it (log 15). -/
  busTrace : List BusEvent
  /-- The Sleep events, by their durations. -/
  sleeps : List Nat
deriving DecidableEq, Repr

/-- The observation at a state (R443). It says nothing of the elements the rule leaves out: the sensor, CAL and
SAMPLE_* behind a cleared valid bit, the sequencer's registers, the buffers, the raw and pending values. -/
def State.observation (s : State) : Observation :=
  { hsts := State.hsts s
    errInfo := s.errInfo
    sample := s.visibleSample
    returns := s.hostReturns
    busTrace := s.bus.trace.filter fun e => (sleepOf e).isNone
    sleeps := s.bus.trace.filterMap sleepOf }

/-- What a run from `s` lets the host observe, if it ends within `n` steps (R443). A run that hangs, faults or is
refused has no end and no observation. -/
def observedRun (n : Nat) (s : State) : Option Observation := (endOfRun n s).map State.observation

end Sys2Proof.Machine
end

