-- ==== Sys2Proof/Safety.lean ====
section
/-! DEFINITION. What claims are stated in terms of: a launch (70_reset_and_hazards.md R442; the end of a
run, R443, is in Machine/Observation.lean), the invariant of the ROM's control flow under which no model fault can arise (44_controller.md R362,
60_exceptions.md R389), and the ranges the spec promises. -/

namespace Sys2Proof.Machine

/-- A launch (R442): an admitted parameter record, the power-up state, a finite sequence of host commands, and a
bus oracle. -/
def launch (p : BcbConfig) (commands : List Byte) (bus : Bus) : State :=
  { State.powerUp p with hostQueue := commands, bus := bus }

/-- The first `n` bytes of a receive buffer are written (R34). -/
def writtenUpTo (n : Nat) (buf : List (Option Byte)) : Prop := ∀ i < n, (byteAt buf i).isSome = true

/-- The parameters under which the ROM's bursts fit their buffers (R9, R135, R130): the record is admitted, block 1
has 26 bytes and the measurement burst 8. -/
def romParams (p : BcbConfig) : Prop := paramsAdmitted p = true ∧ p.cal1Len = 26 ∧ p.dataLen = 8

/-- The command a ROM address belongs to: below 0x18 RESET, 0x18 and 0x19 REFRESH; the body serves both (R350,
R352). -/
def ownerOk (u : Nat) (c : HostCmd) : Prop :=
  (u < 0x18 → c = .reset) ∧ (u = 0x18 ∨ u = 0x19 → c = .refresh)

/-- LINK during the Refresh body: after one of RESET's priming calls, or after REFRESH's call (R332, R361). -/
def linkOk (p : BcbConfig) (link : Option Byte) (c : HostCmd) : Prop :=
  ∃ l, link = some l ∧
    ((c = .reset ∧ 0x11 ≤ l.toNat ∧ l.toNat ≤ 0x10 + p.primingCount.toNat) ∨ (c = .refresh ∧ l.toNat = 0x19))

/-- What has been written when the sequencer stands at ROM address `u` (R362 points 2 to 5). -/
structure AtPoint (s : State) (u : Nat) (c : HostCmd) : Prop where
  onRom : (Memory.read (Rom.image s.cfg) u).isSome = true
  owner : ownerOk u c
  bound : 2 ≤ u → s.sessionBound = true
  rdata : u = 0x03 ∨ u = 0x08 ∨ u = 0x25 → s.rdata.isSome = true
  pollcnt : (6 ≤ u ∧ u ≤ 8) ∨ (0x23 ≤ u ∧ u ≤ 0x25) → s.pollcnt.isSome = true
  block1 : u = 0x0A ∨ u = 0x0B → writtenUpTo 26 s.buf1
  block2 : u = 0x0B → writtenUpTo s.cfg.cal2Len.toNat s.buf2
  cal : 0x0C ≤ u → s.cal.isSome = true
  link : 0x20 ≤ u → linkOk s.cfg s.link c
  burst : u = 0x27 ∨ u = 0x28 → writtenUpTo 8 s.bufd
  raw : 0x29 ≤ u ∧ u ≤ 0x2B → s.rawP.isSome = true ∧ s.rawT.isSome = true ∧ s.rawH.isSome = true
  tfine : u = 0x2A ∨ u = 0x2B → s.tfine.isSome = true ∧ s.tfineGen = s.rawGen
  tNew : 0x2A ≤ u ∧ u ≤ 0x2C → s.tNew.isSome = true
  pNew : u = 0x2B ∨ u = 0x2C → s.pNew.isSome = true
  hNew : u = 0x2C → s.hNew.isSome = true

/-- The control invariant: the machine runs the spec's own ROM, and everything a micro-operation at UPC will read
has been written (R362). -/
structure ControlInv (s : State) : Prop where
  params : romParams s.cfg
  rom : s.rom = Rom.image s.cfg
  port : s.wireQueue = []
  ready : s.lifeState = .ready → s.sessionBound = true ∧ s.cal.isSome = true
  sample : s.sampleValid = true →
    s.sampleT.isSome = true ∧ s.sampleP.isSome = true ∧ s.sampleH.isSome = true
  point : s.busy = true → ∃ u c, s.upc = some u ∧ s.cmd = some c ∧ AtPoint s u.toNat c

/-- The receive buffers have their sizes (R34). -/
def buffersSized (s : State) : Prop := s.buf1.length = 26 ∧ s.buf2.length = 8 ∧ s.bufd.length = 8

/-- A humidity in %RH within [0, 100] (R40, R265): a finite number, not below 0 and not above 100. -/
def humidityOk (h : F64) : Prop := F64.isFinite h = true ∧ 0 ≤ F64.value h ∧ F64.value h ≤ 100

/-- Every humidity the state holds is within [0, 100] (R40, R260, R295). -/
def humidityInRange (s : State) : Prop :=
  (∀ h, s.hNew = some h → humidityOk h) ∧ (∀ h, s.sampleH = some h → humidityOk h)

/-- The instruction is a register write of `v` to `a`: the generic transaction (R161), or a concrete one with its
parameters (R167, R171 to R174). -/
def writesRegister (p : BcbConfig) (i : Instr) (a v : Byte) : Prop :=
  i = .writeRegister a v
    ∨ (i = .wrSoftReset ∧ a = p.regSoftReset ∧ v = p.softResetCmd)
    ∨ (i = .wrCtrlHum ∧ a = p.regCtrlHum ∧ v = p.ctrlHumValue)
    ∨ (i = .wrCtrlMeasCfg ∧ a = p.regCtrlMeas ∧ v = p.ctrlMeasConfigValue)
    ∨ (i = .wrConfig ∧ a = p.regConfig ∧ v = p.configValue)
    ∨ (i = .wrCtrlMeasForced ∧ a = p.regCtrlMeas ∧ v = p.ctrlMeasForcedValue)

/-- The instruction is a single read of `a`: the generic transaction (R162), or a concrete one (R166, R168). -/
def readsRegister (p : BcbConfig) (i : Instr) (a : Byte) : Prop :=
  i = .readRegister a ∨ (i = .rdChipId ∧ a = p.regChipId) ∨ (i = .rdStatus ∧ a = p.regStatus)

/-- The instruction is a burst read of `n` bytes from `a`, 1 to 32: the generic transaction (R163), or a concrete
one (R169, R170, R175). -/
def readsBlock (p : BcbConfig) (i : Instr) (a : Byte) (n : Nat) : Prop :=
  1 ≤ n ∧ n ≤ 32 ∧
    (i = .readBlock a n
      ∨ (i = .rdCal1 ∧ a = p.regCal1 ∧ n = p.cal1Len.toNat)
      ∨ (i = .rdCal2 ∧ a = p.regCal2 ∧ n = p.cal2Len.toNat)
      ∨ (i = .rdData ∧ a = p.regData ∧ n = p.dataLen.toNat))

/-- A step that aborted the running command: BUSY fell with an error in ERR and its record in ERRINFO (R380). -/
def abortedStep (s t : State) : Prop :=
  s.busy = true ∧ t.busy = false ∧ ∃ info, t.errInfo = some info ∧ t.err = errKindOf info ∧ t.err ≠ .none

/-- The state seen without the observer: the port off and its log empty (R408). -/
def withoutObserver (s : State) : State :=
  { s with cfg := { s.cfg with observer := false }, observerLog := [] }

/-- The register writes the ROM issues, as the bytes of their frames (R167, R171 to R174, R351). -/
def romWrites (p : BcbConfig) : List (List Byte) :=
  [ [p.regSoftReset, p.softResetCmd], [p.regCtrlHum, p.ctrlHumValue], [p.regCtrlMeas, p.ctrlMeasConfigValue],
    [p.regConfig, p.configValue], [p.regCtrlMeas, p.ctrlMeasForcedValue] ]

/-- Every register write on the bus trace is one of the ROM's (R351, R396). -/
def onlyRomWrites (s : State) : Prop :=
  ∀ a v k, BusEvent.write [a, v] k ∈ s.bus.trace → [a, v] ∈ romWrites s.cfg

end Sys2Proof.Machine
end

