-- ==== Sys2Proof/Certificates/Slice0/Obligations.lean ====
section
/-! DEFINITION. The statements for the provers. Each docstring names the rule of spec/ it formalises. A result
statement gives the whole next state, so it says what the instruction leaves unchanged as well. -/

open Sys2Proof Sys2Proof.Machine

/-! ## Power-up -/

/-- R59: every element after power-up, under every parameter record; and what "unwritten" means (R31): each instruction
that reads an element is the fault UnwrittenRead naming it where that element alone, of those the instruction reads,
is unwritten. That COMPP reads RAW_P also where its denominator is zero is the model's choice between R250's operand line
and its pseudocode (log 12). -/
def Obligations.PowerUpState : Prop :=
  (∀ p : BcbConfig,
    (State.powerUp p).lifeState = .uninit ∧ (State.powerUp p).busy = false ∧ (State.powerUp p).err = .none ∧
    (State.powerUp p).errInfo = none ∧ (State.powerUp p).sessionBound = false ∧ (State.powerUp p).cal = none ∧
    (State.powerUp p).calValid = false ∧ (State.powerUp p).buf1 = List.replicate 26 none ∧
    (State.powerUp p).buf2 = List.replicate 8 none ∧ (State.powerUp p).bufd = List.replicate 8 none ∧
    (State.powerUp p).rdata = none ∧ (State.powerUp p).rawP = none ∧ (State.powerUp p).rawT = none ∧
    (State.powerUp p).rawH = none ∧ (State.powerUp p).tfine = none ∧ (State.powerUp p).rawGen = 0 ∧
    (State.powerUp p).tfineGen = 0 ∧ (State.powerUp p).tNew = none ∧ (State.powerUp p).pNew = none ∧
    (State.powerUp p).hNew = none ∧ (State.powerUp p).sampleT = none ∧ (State.powerUp p).sampleP = none ∧
    (State.powerUp p).sampleH = none ∧ (State.powerUp p).sampleValid = false ∧ (State.powerUp p).upc = none ∧
    (State.powerUp p).link = none ∧ (State.powerUp p).pollcnt = none ∧ (State.powerUp p).cmd = none ∧
    State.hsts (State.powerUp p) = 0x0000 ∧ State.reset = State.powerUp BcbConfig.defaults) ∧
  (∀ s : State, s.upc = none →
    exec .pinit s = .fault (.unwrittenRead .upc) ∧ exec (.call 0x20) s = .fault (.unwrittenRead .upc)) ∧
  (∀ s : State, s.link = none → exec .ret s = .fault (.unwrittenRead .link)) ∧
  (∀ (s : State) (u : Byte), s.upc = some u → s.pollcnt = none → exec .pwait s = .fault (.unwrittenRead .pollcnt)) ∧
  (∀ (s : State) (m l d : Byte) (n : ℕ+), l ≤ 0x2E → s.rdata = some d → d &&& m ≠ 0 → s.cfg.pollLimit = some n →
    s.pollcnt = none → exec (.bbusy m l) s = .fault (.unwrittenRead .pollcnt)) ∧
  (∀ (s : State) (v m l u : Byte), s.upc = some u → l ≤ 0x2E → s.rdata = none →
    exec (.chkid v) s = .fault (.unwrittenRead .rdata) ∧
    (s.pollcnt.isSome = true → exec (.bbusy m l) s = .fault (.unwrittenRead .rdata))) ∧
  (∀ (s : State) (u : Byte) (i : Nat), s.upc = some u → i < 26 → i ≠ 24 → byteAt s.buf1 i = none →
    writtenUpTo 8 s.buf2 → exec .pcal s = .fault (.unwrittenRead .buf1)) ∧
  (∀ (s : State) (u : Byte) (i : Nat), s.upc = some u → writtenUpTo 26 s.buf1 → byteAt s.buf2 i = none →
    i < 7 ∨ (i = 7 ∧ s.cfg.h45Layout = .word16) → exec .pcal s = .fault (.unwrittenRead .buf2)) ∧
  (∀ (s : State) (u : Byte) (i : Nat), s.upc = some u → i < 8 → byteAt s.bufd i = none →
    exec .decode s = .fault (.unwrittenRead .bufd) ∧
    (i = 2 ∨ i = 5 → exec .chkrsv s = .fault (.unwrittenRead .bufd))) ∧
  (∀ (s : State) (u : Byte), s.upc = some u →
    (s.rawT = none → s.cal.isSome = true → exec .compt s = .fault (.unwrittenRead .rawT)) ∧
    (s.rawT.isSome = true → s.cal = none → exec .compt s = .fault (.unwrittenRead .cal))) ∧
  (∀ (s : State) (u : Byte), s.upc = some u → s.tfineGen = s.rawGen →
    (s.tfine = none → s.rawP.isSome = true → s.cal.isSome = true →
      exec .compp s = .fault (.unwrittenRead .tfine)) ∧
    (s.tfine.isSome = true → s.rawP = none → s.cal.isSome = true →
      exec .compp s = .fault (.unwrittenRead .rawP)) ∧
    (s.tfine.isSome = true → s.rawP.isSome = true → s.cal = none →
      exec .compp s = .fault (.unwrittenRead .cal)) ∧
    (s.tfine = none → s.rawH.isSome = true → s.cal.isSome = true →
      exec .comph s = .fault (.unwrittenRead .tfine)) ∧
    (s.tfine.isSome = true → s.rawH = none → s.cal.isSome = true →
      exec .comph s = .fault (.unwrittenRead .rawH)) ∧
    (s.tfine.isSome = true → s.rawH.isSome = true → s.cal = none →
      exec .comph s = .fault (.unwrittenRead .cal))) ∧
  (∀ (s : State) (u : Byte), s.upc = some u →
    (s.tNew = none → s.pNew.isSome = true → s.hNew.isSome = true →
      exec .commit s = .fault (.unwrittenRead .tNew)) ∧
    (s.tNew.isSome = true → s.pNew = none → s.hNew.isSome = true →
      exec .commit s = .fault (.unwrittenRead .pNew)) ∧
    (s.tNew.isSome = true → s.pNew.isSome = true → s.hNew = none →
      exec .commit s = .fault (.unwrittenRead .hNew))) ∧
  (∀ s : State, s.busy = false → s.sampleValid = true →
    (s.sampleT = none → exec .readT s = .fault (.unwrittenRead .sampleT)) ∧
    (s.sampleP = none → exec .readP s = .fault (.unwrittenRead .sampleP)) ∧
    (s.sampleH = none → exec .readH s = .fault (.unwrittenRead .sampleH))) ∧
  (∀ (s : State) (info : ErrInfo), s.cmd = none → raiseError info s = .fault (.unwrittenRead .cmd))

/-! ## Decoding and encoding -/

/-- Words of 30_encoding.md and 95_test_vectors.md section 3.9 decode to the instructions they stand for, or are
rejected. That the two frame sequences decode to the name of 40_bus_transactions.md section 2, and not to the generic
transaction, is the decoder's convention of log 20 (DEDUCED). -/
def Obligations.SpecWordsDecode : Prop :=
  decodeMicro 0x04F70802 = .ok (.rdb 0xF7 8 .bufd) ∧ decodeMicro 0x02E0B600 = .ok (.wr 0xE0 0xB6) ∧
  decodeMicro 0x08000106 = .ok (.bbusy 0x01 0x06) ∧ decodeMicro 0x0C000000 = .error .illegalMicroOp ∧
  decodeMicro 0x00000001 = .error .illegalMicroOp ∧ decodeMicro 0x04F72102 = .error .illegalMicroOp ∧
  decodeMicro 0x04881A02 = .error .illegalMicroOp ∧ decodeMicro 0x04F70803 = .error .illegalMicroOp ∧
  decodeMicro 0x0B000500 = .error .illegalMicroOp ∧ decodeMicro 0x09000030 = .error .illegalMicroOp ∧
  decodeMicro 0x09000015 = .ok (.call 0x15) ∧ decodeMicro 0x03D00001 = .error .illegalMicroOp ∧
  decodeHost 0x01 = .ok .reset ∧ decodeHost 0x06 = .error .reservedHostCode ∧
  decodeWire BcbConfig.defaults [.write [0xE0, 0xB6]] = .ok .wrSoftReset ∧
  decodeWire BcbConfig.defaults [.write [0xF7], .read 8] = .ok .rdData

/-- R145, R146: every well-formed micro-instruction is decoded from its own word, with every operand. -/
def Obligations.MicroDecodeOfEncode : Prop :=
  ∀ (p : BcbConfig) (i : Instr) (w : MicroWord),
    i.wellFormed = true → encode p i = .micro w → decode p (encode p i) = .ok i

/-- R145, R146: a word that decodes is the word of a well-formed instruction, so no bit of it is dropped. -/
def Obligations.MicroEncodeOfDecode : Prop :=
  ∀ (p : BcbConfig) (w : MicroWord) (i : Instr),
    decodeMicro w = .ok i → encode p i = .micro w ∧ i.wellFormed = true

/-- R140, R141: the five codes are the five commands, and every other code is reserved. R114: a sequence of frames
decodes exactly when it is the frames of a transaction, and then to that transaction under its name; the ten concrete
transactions decode to themselves under the default parameters. -/
def Obligations.HostAndWireDecode : Prop :=
  (∀ (p : BcbConfig) (b : Byte) (i : Instr), decodeHost b = .ok i ↔ encode p i = .host b) ∧
  (∀ b : Byte, decodeHost b = .error .reservedHostCode ↔ b = 0x00 ∨ 0x06 ≤ b) ∧
  (∀ (p : BcbConfig) (a v : Byte),
    decode p (encode p (.writeRegister a v)) = .ok (nameWire p (.writeRegister a v)) ∧
    decode p (encode p (.readRegister a)) = .ok (nameWire p (.readRegister a))) ∧
  (∀ (p : BcbConfig) (a : Byte) (n : Nat), 2 ≤ n → n ≤ 32 →
    decode p (encode p (.readBlock a n)) = .ok (nameWire p (.readBlock a n))) ∧
  (∀ p : BcbConfig, decode p (encode p .bindSession) = .ok .bindSession) ∧
  (∀ (p : BcbConfig) (frames : List Frame) (i : Instr), decodeWire p frames = .ok i →
    ∃ g : Instr, g.wellFormed = true ∧ encode p g = .wire frames ∧ i = nameWire p g) ∧
  (∀ i ∈ [Instr.rdChipId, .wrSoftReset, .rdStatus, .rdCal1, .rdCal2, .wrCtrlHum, .wrCtrlMeasCfg, .wrConfig,
      .wrCtrlMeasForced, .rdData],
    decode BcbConfig.defaults (encode BcbConfig.defaults i) = .ok i)

/-- R166 to R175: giving a transaction the name of section 2 does not change what it does. -/
def Obligations.NamedTransactionActsAsGeneric : Prop :=
  ∀ (i : Instr) (s : State), exec (nameWire s.cfg i) s = exec i s

/-- R147: which words are illegal; fetching one is IllegalMicroOp. The micro-ROM holds none of them: an inference the
spec marks as derived from R360, said here of the ROM under every record `romParams` allows (R361; which records are
admitted is log 14, DEDUCED). -/
def Obligations.IllegalWords : Prop :=
  (∀ w : MicroWord, decodeMicro w = .error .illegalMicroOp ↔
    ((0x0C ≤ opField w ∧ opField w ≤ 0x0F) ∨ 0x17 ≤ opField w
      ∨ (aField w ≠ 0 ∧ opField w ≠ 0x02 ∧ opField w ≠ 0x03 ∧ opField w ≠ 0x04)
      ∨ (bField w ≠ 0 ∧ opField w ≠ 0x02 ∧ opField w ≠ 0x04 ∧ opField w ≠ 0x05 ∧ opField w ≠ 0x08 ∧
          opField w ≠ 0x0B)
      ∨ (cField w ≠ 0 ∧ opField w ≠ 0x04 ∧ opField w ≠ 0x08 ∧ opField w ≠ 0x09)
      ∨ (opField w = 0x04 ∧ (bField w = 0 ∨ 32 < bField w ∨ 2 < cField w))
      ∨ (opField w = 0x04 ∧ cField w = 0 ∧ 26 < bField w)
      ∨ (opField w = 0x04 ∧ (cField w = 1 ∨ cField w = 2) ∧ 8 < bField w)
      ∨ (opField w = 0x0B ∧ 4 < bField w)
      ∨ ((opField w = 0x08 ∨ opField w = 0x09) ∧ 0x2E < cField w))) ∧
  (∀ (p : BcbConfig) (a : Nat) (w : MicroWord), romParams p → (a, w) ∈ Rom.image p →
    ∃ i, decodeMicro w = .ok i) ∧
  (∀ (s : State) (u : Byte) (w : MicroWord), paramsAdmitted s.cfg = true → s.wireQueue = [] → s.busy = true →
    s.upc = some u → Memory.read s.rom u.toNat = some w → decodeMicro w = .error .illegalMicroOp →
    step s = .fault .illegalMicroOp)

/-! ## The step -/

/-- R320, R330: a step runs the instruction it decodes. A micro-step is `exec` of the word at UPC with the
observer's event; a host step is `exec` of the next command, taken off the queue; frames on the direct port run as
one transaction; with nothing to run the state stays. -/
def Obligations.StepRunsDecodedInstruction : Prop :=
  (∀ (s : State) (u : Byte) (w : MicroWord) (i : Instr), paramsAdmitted s.cfg = true → s.wireQueue = [] →
    s.busy = true → s.upc = some u → Memory.read s.rom u.toNat = some w → decodeMicro w = .ok i →
    step s = observed s (some (u, opField w)) (exec i s) ∧ (s.cfg.observer = false → step s = exec i s)) ∧
  (∀ (s : State) (code : Byte) (rest : List Byte) (i : Instr), paramsAdmitted s.cfg = true → s.wireQueue = [] →
    s.busy = false → s.hostQueue = code :: rest → decodeHost code = .ok i →
    step s = exec i { s with hostQueue := rest }) ∧
  (∀ (s : State) (i : Instr), paramsAdmitted s.cfg = true → s.wireQueue ≠ [] →
    decodeWire s.cfg s.wireQueue = .ok i → step s = exec i { s with wireQueue := [] }) ∧
  (∀ s : State, paramsAdmitted s.cfg = true → s.wireQueue = [] → s.busy = false → s.hostQueue = [] →
    step s = .next s)

/-- R334: with the default ROM every hole is a fetch fault; R31, R59: so is an unwritten UPC. R326 and R389: a
reserved host code and a parameter record the spec does not admit are refused. -/
def Obligations.FetchStops : Prop :=
  (∀ (s : State) (u : Byte), s.cfg = BcbConfig.defaults → s.rom = Rom.image s.cfg → s.wireQueue = [] →
    s.busy = true → s.upc = some u →
    (step s = .fault .romOverrun ↔
      (0x13 ≤ u ∧ u ≤ 0x17) ∨ (0x1A ≤ u ∧ u ≤ 0x1F) ∨ 0x2F ≤ u)) ∧
  (∀ s : State, paramsAdmitted s.cfg = true → s.wireQueue = [] → s.busy = true → s.upc = none →
    step s = .fault (.unwrittenRead .upc)) ∧
  (∀ (s : State) (code : Byte) (rest : List Byte), paramsAdmitted s.cfg = true → s.wireQueue = [] →
    s.busy = false → s.hostQueue = code :: rest → (code = 0x00 ∨ 0x06 ≤ code) →
    step s = .refused (.reservedHostCode code)) ∧
  (∀ s : State, (s.cfg.h45Layout = .word16 ∧ s.cfg.cal2Len = 7) ∨ s.cfg.primingCount = 0 →
    step s = .refused .parametersNotAdmitted)

/-- R360, R361: the micro-ROM word by word under the default parameters; under any PRIMING_COUNT from 1 to 7 every word
as a function of the parameters, and which addresses hold one. -/
def Obligations.RomContents : Prop :=
  Rom.image BcbConfig.defaults =
    [ (0x00, 0x0B000100), (0x01, 0x01000000), (0x02, 0x03D00000), (0x03, 0x05006000), (0x04, 0x02E0B600),
      (0x05, 0x06000000), (0x06, 0x07000000), (0x07, 0x03F30000), (0x08, 0x08000106), (0x09, 0x04881A00),
      (0x0A, 0x04E10701), (0x0B, 0x10000000), (0x0C, 0x0B000200), (0x0D, 0x02F20500), (0x0E, 0x02F4B400),
      (0x0F, 0x02F50000), (0x10, 0x09000020), (0x11, 0x09000020), (0x12, 0x00000000), (0x18, 0x09000020),
      (0x19, 0x00000000), (0x20, 0x0B000400), (0x21, 0x02F4B500), (0x22, 0x06000000), (0x23, 0x07000000),
      (0x24, 0x03F30000), (0x25, 0x08000823), (0x26, 0x04F70802), (0x27, 0x11000000), (0x28, 0x12000000),
      (0x29, 0x13000000), (0x2A, 0x14000000), (0x2B, 0x15000000), (0x2C, 0x16000000), (0x2D, 0x0B000300),
      (0x2E, 0x0A000000) ] ∧
  (∀ (p : BcbConfig) (k : Nat), p.primingCount.toNat = k → 1 ≤ k → k ≤ 7 →
    Memory.read (Rom.image p) 0x00 = some 0x0B000100 ∧
    Memory.read (Rom.image p) 0x01 = some 0x01000000 ∧
    Memory.read (Rom.image p) 0x02 = some (microWord 0x03 p.regChipId 0 0) ∧
    Memory.read (Rom.image p) 0x03 = some (microWord 0x05 0 p.chipIdExpected 0) ∧
    Memory.read (Rom.image p) 0x04 = some (microWord 0x02 p.regSoftReset p.softResetCmd 0) ∧
    Memory.read (Rom.image p) 0x05 = some 0x06000000 ∧
    Memory.read (Rom.image p) 0x06 = some 0x07000000 ∧
    Memory.read (Rom.image p) 0x07 = some (microWord 0x03 p.regStatus 0 0) ∧
    Memory.read (Rom.image p) 0x08 = some (microWord 0x08 0 p.resetBusyMask 0x06) ∧
    Memory.read (Rom.image p) 0x09 = some (microWord 0x04 p.regCal1 p.cal1Len 0) ∧
    Memory.read (Rom.image p) 0x0A = some (microWord 0x04 p.regCal2 p.cal2Len 1) ∧
    Memory.read (Rom.image p) 0x0B = some 0x10000000 ∧
    Memory.read (Rom.image p) 0x0C = some 0x0B000200 ∧
    Memory.read (Rom.image p) 0x0D = some (microWord 0x02 p.regCtrlHum p.ctrlHumValue 0) ∧
    Memory.read (Rom.image p) 0x0E = some (microWord 0x02 p.regCtrlMeas p.ctrlMeasConfigValue 0) ∧
    Memory.read (Rom.image p) 0x0F = some (microWord 0x02 p.regConfig p.configValue 0) ∧
    (∀ j < k, Memory.read (Rom.image p) (0x10 + j) = some 0x09000020) ∧
    Memory.read (Rom.image p) (0x10 + k) = some 0x00000000 ∧
    (k = 1 → Memory.read (Rom.image p) 0x12 = some 0x00000000) ∧
    Memory.read (Rom.image p) 0x18 = some 0x09000020 ∧
    Memory.read (Rom.image p) 0x19 = some 0x00000000 ∧
    Memory.read (Rom.image p) 0x20 = some 0x0B000400 ∧
    Memory.read (Rom.image p) 0x21 = some (microWord 0x02 p.regCtrlMeas p.ctrlMeasForcedValue 0) ∧
    Memory.read (Rom.image p) 0x22 = some 0x06000000 ∧
    Memory.read (Rom.image p) 0x23 = some 0x07000000 ∧
    Memory.read (Rom.image p) 0x24 = some (microWord 0x03 p.regStatus 0 0) ∧
    Memory.read (Rom.image p) 0x25 = some (microWord 0x08 0 p.measBusyMask 0x23) ∧
    Memory.read (Rom.image p) 0x26 = some (microWord 0x04 p.regData p.dataLen 2) ∧
    Memory.read (Rom.image p) 0x27 = some 0x11000000 ∧
    Memory.read (Rom.image p) 0x28 = some 0x12000000 ∧
    Memory.read (Rom.image p) 0x29 = some 0x13000000 ∧
    Memory.read (Rom.image p) 0x2A = some 0x14000000 ∧
    Memory.read (Rom.image p) 0x2B = some 0x15000000 ∧
    Memory.read (Rom.image p) 0x2C = some 0x16000000 ∧
    Memory.read (Rom.image p) 0x2D = some 0x0B000300 ∧
    Memory.read (Rom.image p) 0x2E = some 0x0A000000 ∧
    (∀ a : Nat, (Memory.read (Rom.image p) a).isSome = true ↔
      a ≤ 0x12 ∨ a ≤ 0x10 + k ∨ a = 0x18 ∨ a = 0x19 ∨ (0x20 ≤ a ∧ a ≤ 0x2E)))

/-! ## Host commands -/

/-- R321, R322: acceptance. RESET is accepted in every STATE, REFRESH in READY; BUSY, CMD and UPC are written and
nothing else. -/
def Obligations.RunCommandsAccepted : Prop :=
  (∀ s : State, s.busy = false →
    exec .reset s = .next { s with busy := true, cmd := some .reset, upc := some 0x00 }) ∧
  (∀ s : State, s.busy = false → s.lifeState = .ready →
    exec .refresh s = .next { s with busy := true, cmd := some .refresh, upc := some 0x18 })

/-- R323 to R325: a READ_* with SAMPLE_VALID = 1 returns its sample; ERR is NONE and nothing else changes. -/
def Obligations.ReadCommandsReturnSample : Prop :=
  (∀ (s : State) (v : F64), s.busy = false → s.sampleValid = true → s.sampleT = some v →
    exec .readT s = .next { s with err := .none, hostReturns := s.hostReturns ++ [⟨0x03, v⟩] }) ∧
  (∀ (s : State) (v : F64), s.busy = false → s.sampleValid = true → s.sampleP = some v →
    exec .readP s = .next { s with err := .none, hostReturns := s.hostReturns ++ [⟨0x04, v⟩] }) ∧
  (∀ (s : State) (v : F64), s.busy = false → s.sampleValid = true → s.sampleH = some v →
    exec .readH s = .next { s with err := .none, hostReturns := s.hostReturns ++ [⟨0x05, v⟩] })

/-- R327, R385: NotReady writes ERR (code 5) and ERRINFO with the command's code, and nothing else. -/
def Obligations.NotReadyChangesErrorOnly : Prop :=
  errCode .notReady = 5 ∧
  (∀ s : State, s.busy = false → s.lifeState ≠ .ready →
    exec .refresh s = .next { s with err := .notReady, errInfo := some (.notReady 0x02) }) ∧
  (∀ s : State, s.busy = false → s.sampleValid = false →
    exec .readT s = .next { s with err := .notReady, errInfo := some (.notReady 0x03) } ∧
    exec .readP s = .next { s with err := .notReady, errInfo := some (.notReady 0x04) } ∧
    exec .readH s = .next { s with err := .notReady, errInfo := some (.notReady 0x05) })

/-! ## Wire transactions -/

/-- R161 and the five concrete writes: a write whose two bytes are accepted completes; only the bus has moved on. -/
def Obligations.RegisterWriteCompletes : Prop :=
  ∀ (s : State) (i : Instr) (a v : Byte), writesRegister s.cfg i a v → s.sessionBound = true →
    2 ≤ (Bus.writeXfer [a, v] s.bus).1 →
    exec i s = .next { s with bus := (Bus.writeXfer [a, v] s.bus).2 }

/-- R162 and the two concrete reads: a read whose select and byte both move completes with that byte. -/
def Obligations.RegisterReadCompletes : Prop :=
  ∀ (s : State) (i : Instr) (a d : Byte), readsRegister s.cfg i a → s.sessionBound = true →
    1 ≤ (Bus.writeXfer [a] s.bus).1 → (Bus.readXfer 1 (Bus.writeXfer [a] s.bus).2).1 = [d] →
    exec i s =
      .next { s with bus := (Bus.readXfer 1 (Bus.writeXfer [a] s.bus).2).2, wireResult := some [d] }

/-- R163 and the three concrete bursts: a burst whose select and all `n` bytes move completes with those bytes. -/
def Obligations.BlockReadCompletes : Prop :=
  ∀ (s : State) (i : Instr) (a : Byte) (n : Nat) (d : List Byte), readsBlock s.cfg i a n →
    s.sessionBound = true → 1 ≤ (Bus.writeXfer [a] s.bus).1 →
    (Bus.readXfer n (Bus.writeXfer [a] s.bus).2).1 = d → d.length = n →
    exec i s = .next { s with bus := (Bus.readXfer n (Bus.writeXfer [a] s.bus).2).2, wireResult := some d }

/-- R160 to R163: a short transfer raises BusTransferError with its record at once, and after a short select no
read is issued. Inside a running command it aborts the command. -/
def Obligations.ShortTransferRaises : Prop :=
  (∀ (s : State) (i : Instr) (a v : Byte) (c : HostCmd), writesRegister s.cfg i a v → s.sessionBound = true →
    s.busy = true → s.cmd = some c → (Bus.writeXfer [a, v] s.bus).1 < 2 →
    exec i s = .next (abortWith (.bus .write a 2 (Bus.writeXfer [a, v] s.bus).1) c
      { s with bus := (Bus.writeXfer [a, v] s.bus).2 })) ∧
  (∀ (s : State) (i : Instr) (a : Byte) (n : Nat) (c : HostCmd),
    readsRegister s.cfg i a ∨ readsBlock s.cfg i a n → s.sessionBound = true →
    s.busy = true → s.cmd = some c → (Bus.writeXfer [a] s.bus).1 < 1 →
    exec i s = .next (abortWith (.bus .select a 1 0) c { s with bus := (Bus.writeXfer [a] s.bus).2 })) ∧
  (∀ (s : State) (i : Instr) (a : Byte) (c : HostCmd), readsRegister s.cfg i a → s.sessionBound = true →
    s.busy = true → s.cmd = some c → 1 ≤ (Bus.writeXfer [a] s.bus).1 →
    (Bus.readXfer 1 (Bus.writeXfer [a] s.bus).2).1 = [] →
    exec i s = .next (abortWith (.bus .read a 1 0) c
      { s with bus := (Bus.readXfer 1 (Bus.writeXfer [a] s.bus).2).2 })) ∧
  (∀ (s : State) (i : Instr) (a : Byte) (n : Nat) (c : HostCmd), readsBlock s.cfg i a n → s.sessionBound = true →
    s.busy = true → s.cmd = some c → 1 ≤ (Bus.writeXfer [a] s.bus).1 →
    (Bus.readXfer n (Bus.writeXfer [a] s.bus).2).1.length < n →
    exec i s = .next (abortWith (.bus .burst a n (Bus.readXfer n (Bus.writeXfer [a] s.bus).2).1.length) c
      { s with bus := (Bus.readXfer n (Bus.writeXfer [a] s.bus).2).2 }))

/-- R47, R160: a register transaction issued with SESSION_BOUND = 0 is the fault Unbound, on the wire and in the
micro-operations. -/
def Obligations.UnboundTransactionsFault : Prop :=
  ∀ (s : State) (i : Instr) (a v : Byte) (n : Nat), s.sessionBound = false →
    (writesRegister s.cfg i a v ∨ readsRegister s.cfg i a ∨ readsBlock s.cfg i a n ∨
      i = .wr a v ∨ i = .rd a ∨ (∃ m b, i = .rdb a m b ∧ i.wellFormed = true)) →
    exec i s = .fault .unbound

/-- R89: a write transfer accepts at most what was sent, a read moves at most what was asked for, and every answer
within these bounds is the answer of some bus. -/
def Obligations.OracleAnswers : Prop :=
  (∀ (bytes : List Byte) (b : Bus), (Bus.writeXfer bytes b).1 ≤ bytes.length) ∧
  (∀ (n : Nat) (b : Bus), (Bus.readXfer n b).1.length ≤ n) ∧
  (∀ (bytes : List Byte) (k : Nat), k ≤ bytes.length → ∃ b, (Bus.writeXfer bytes b).1 = k) ∧
  (∀ (n : Nat) (d : List Byte), d.length ≤ n → ∃ b, (Bus.readXfer n b).1 = d) ∧
  (∀ (a : BitVec 7) (ok : Bool), ∃ b, (Bus.bindSlave a b).1 = ok)

/-! ## Bus micro-operations -/

/-- R178: WR issues a WriteRegister; it writes no state, and a short write aborts the command. -/
def Obligations.WrMicroOp : Prop :=
  decodeMicro 0x02E0B600 = .ok (.wr 0xE0 0xB6) ∧
  (∀ a v c : Byte, c ≠ 0 → decodeMicro (microWord 0x02 a v c) = .error .illegalMicroOp) ∧
  (∀ (s : State) (a v u : Byte), s.sessionBound = true → s.upc = some u →
    2 ≤ (Bus.writeXfer [a, v] s.bus).1 →
    exec (.wr a v) s = .next { s with bus := (Bus.writeXfer [a, v] s.bus).2, upc := some (u + 1) }) ∧
  (∀ (s : State) (a v : Byte) (c : HostCmd), s.sessionBound = true → s.cmd = some c →
    (Bus.writeXfer [a, v] s.bus).1 < 2 →
    exec (.wr a v) s = .next (abortWith (.bus .write a 2 (Bus.writeXfer [a, v] s.bus).1) c
      { s with bus := (Bus.writeXfer [a, v] s.bus).2 }))

/-- R179, R162: RD writes RDATA with the byte read; a short select or read aborts the command with its record (R381),
no read is issued after a short select, and RDATA keeps its value. -/
def Obligations.RdMicroOp : Prop :=
  decodeMicro 0x03F30000 = .ok (.rd 0xF3) ∧
  (∀ (s : State) (a d u : Byte), s.sessionBound = true → s.upc = some u →
    1 ≤ (Bus.writeXfer [a] s.bus).1 → (Bus.readXfer 1 (Bus.writeXfer [a] s.bus).2).1 = [d] →
    exec (.rd a) s = .next
      { s with bus := (Bus.readXfer 1 (Bus.writeXfer [a] s.bus).2).2, rdata := some d, upc := some (u + 1) }) ∧
  (∀ (s : State) (a : Byte) (c : HostCmd), s.sessionBound = true → s.cmd = some c →
    (Bus.writeXfer [a] s.bus).1 < 1 →
    exec (.rd a) s = .next (abortWith (.bus .select a 1 0) c { s with bus := (Bus.writeXfer [a] s.bus).2 })) ∧
  (∀ (s : State) (a : Byte) (c : HostCmd), s.sessionBound = true → s.cmd = some c →
    1 ≤ (Bus.writeXfer [a] s.bus).1 → (Bus.readXfer 1 (Bus.writeXfer [a] s.bus).2).1 = [] →
    exec (.rd a) s = .next (abortWith (.bus .read a 1 0) c
      { s with bus := (Bus.readXfer 1 (Bus.writeXfer [a] s.bus).2).2 })) ∧
  (∀ (s t : State) (a : Byte), exec (.rd a) s = .next t →
    (Bus.writeXfer [a] s.bus).1 < 1 ∨ (Bus.readXfer 1 (Bus.writeXfer [a] s.bus).2).1 = [] →
    t.rdata = s.rdata ∧ t.err = .busTransferError ∧ t.busy = false)

/-- R180, R163, R34: a whole burst writes the first bytes of its buffer, all at once; a short select or burst aborts the
command with its record (R381) and writes no byte of any buffer. -/
def Obligations.RdbMicroOp : Prop :=
  decodeMicro 0x04F70802 = .ok (.rdb 0xF7 8 .bufd) ∧
  (∀ (s : State) (a n u : Byte) (d : List Byte), (Instr.rdb a n .buf1).wellFormed = true →
    s.sessionBound = true → s.upc = some u → 1 ≤ (Bus.writeXfer [a] s.bus).1 →
    (Bus.readXfer n.toNat (Bus.writeXfer [a] s.bus).2).1 = d → d.length = n.toNat →
    exec (.rdb a n .buf1) s = .next
      { s with
        bus := (Bus.readXfer n.toNat (Bus.writeXfer [a] s.bus).2).2
        buf1 := d.map some ++ s.buf1.drop n.toNat, upc := some (u + 1) }) ∧
  (∀ (s : State) (a n u : Byte) (d : List Byte), (Instr.rdb a n .buf2).wellFormed = true →
    s.sessionBound = true → s.upc = some u → 1 ≤ (Bus.writeXfer [a] s.bus).1 →
    (Bus.readXfer n.toNat (Bus.writeXfer [a] s.bus).2).1 = d → d.length = n.toNat →
    exec (.rdb a n .buf2) s = .next
      { s with
        bus := (Bus.readXfer n.toNat (Bus.writeXfer [a] s.bus).2).2
        buf2 := d.map some ++ s.buf2.drop n.toNat, upc := some (u + 1) }) ∧
  (∀ (s : State) (a n u : Byte) (d : List Byte), (Instr.rdb a n .bufd).wellFormed = true →
    s.sessionBound = true → s.upc = some u → 1 ≤ (Bus.writeXfer [a] s.bus).1 →
    (Bus.readXfer n.toNat (Bus.writeXfer [a] s.bus).2).1 = d → d.length = n.toNat →
    exec (.rdb a n .bufd) s = .next
      { s with
        bus := (Bus.readXfer n.toNat (Bus.writeXfer [a] s.bus).2).2
        bufd := d.map some ++ s.bufd.drop n.toNat, upc := some (u + 1) }) ∧
  (∀ (s : State) (a n : Byte) (b : BufId) (c : HostCmd), (Instr.rdb a n b).wellFormed = true →
    s.sessionBound = true → s.cmd = some c → (Bus.writeXfer [a] s.bus).1 < 1 →
    exec (.rdb a n b) s = .next (abortWith (.bus .select a 1 0) c { s with bus := (Bus.writeXfer [a] s.bus).2 })) ∧
  (∀ (s : State) (a n : Byte) (b : BufId) (c : HostCmd), (Instr.rdb a n b).wellFormed = true →
    s.sessionBound = true → s.cmd = some c → 1 ≤ (Bus.writeXfer [a] s.bus).1 →
    (Bus.readXfer n.toNat (Bus.writeXfer [a] s.bus).2).1.length < n.toNat →
    exec (.rdb a n b) s = .next (abortWith
      (.bus .burst a n.toNat (Bus.readXfer n.toNat (Bus.writeXfer [a] s.bus).2).1.length) c
      { s with bus := (Bus.readXfer n.toNat (Bus.writeXfer [a] s.bus).2).2 })) ∧
  (∀ (s t : State) (a n : Byte) (b : BufId), exec (.rdb a n b) s = .next t →
    (Bus.writeXfer [a] s.bus).1 < 1 ∨
      (Bus.readXfer n.toNat (Bus.writeXfer [a] s.bus).2).1.length < n.toNat →
    t.buf1 = s.buf1 ∧ t.buf2 = s.buf2 ∧ t.bufd = s.bufd ∧ t.err = .busTransferError ∧ t.busy = false)

/-- R164, R181: Bind sets SESSION_BOUND when the adapter answers ok, also when already bound; a refused bind raises.
BIND does the same inside the micro-program and then advances UPC. -/
def Obligations.BindOperations : Prop :=
  (∀ s : State, (Bus.bindSlave s.cfg.slaveAddr s.bus).1 = true →
    exec .bindSession s =
      .next { s with bus := (Bus.bindSlave s.cfg.slaveAddr s.bus).2, sessionBound := true }) ∧
  (∀ (s : State) (c : HostCmd), (Bus.bindSlave s.cfg.slaveAddr s.bus).1 = false → s.busy = true →
    s.cmd = some c →
    exec .bindSession s = .next (abortWith (.bus .bind (s.cfg.slaveAddr.setWidth 8) 0 0) c
      { s with bus := (Bus.bindSlave s.cfg.slaveAddr s.bus).2 })) ∧
  decodeMicro 0x01000000 = .ok .bind ∧
  (∀ (s : State) (u : Byte), s.upc = some u → (Bus.bindSlave s.cfg.slaveAddr s.bus).1 = true →
    exec .bind s = .next
      { s with bus := (Bus.bindSlave s.cfg.slaveAddr s.bus).2, sessionBound := true, upc := some (u + 1) }) ∧
  (∀ (s : State) (c : HostCmd), s.cmd = some c → (Bus.bindSlave s.cfg.slaveAddr s.bus).1 = false →
    exec .bind s = .next (abortWith (.bus .bind (s.cfg.slaveAddr.setWidth 8) 0 0) c
      { s with bus := (Bus.bindSlave s.cfg.slaveAddr s.bus).2 }))

/-! ## Errors -/

/-- R380, R394, R395: raising an error in a RESET writes the error record, clears BUSY, and makes the state UNINIT with
CAL_VALID, SAMPLE_VALID and SESSION_BOUND 0; in a REFRESH (R394) it returns to READY. Nothing else changes. Each
record's error kind is that of R381 to R385. -/
def Obligations.RaiseAbortsTheCommand : Prop :=
  (∀ (s : State) (info : ErrInfo), s.cmd = some .reset →
    raiseError info s = .next
      { s with
        err := errKindOf info, errInfo := some info, lifeState := .uninit, calValid := false
        sampleValid := false, sessionBound := false, busy := false }) ∧
  (∀ (s : State) (info : ErrInfo), s.cmd = some .refresh →
    raiseError info s = .next
      { s with err := errKindOf info, errInfo := some info, lifeState := .ready, busy := false }) ∧
  (∀ (k : XferKind) (a : Byte) (want got : Nat), errKindOf (.bus k a want got) = .busTransferError) ∧
  (∀ d : Byte, errKindOf (.chipId d) = .protocolError) ∧
  (∀ p q : BitVec 4, errKindOf (.reserved p q) = .logicError) ∧
  (∀ d m : Byte, errKindOf (.poll d m) = .timeoutError) ∧
  (∀ c : Byte, errKindOf (.notReady c) = .notReady)

/-- R44, R45: the fields of HSTS, its reserved bits, and the codes of ERR. -/
def Obligations.HstsFields : Prop :=
  (∀ s : State,
    (State.hsts s).extractLsb' 0 3 = lifeCode s.lifeState ∧ (State.hsts s).getLsbD 3 = s.busy ∧
    (State.hsts s).extractLsb' 4 3 = errCode s.err ∧ (State.hsts s).getLsbD 7 = s.sampleValid ∧
    (State.hsts s).getLsbD 8 = s.calValid ∧ (State.hsts s).extractLsb' 9 7 = 0) ∧
  State.hsts State.reset = 0x0000 ∧ (∀ e : ErrKind, (errCode e).toNat ≤ 5) ∧
  errCode .none = 0 ∧ errCode .busTransferError = 1 ∧ errCode .protocolError = 2 ∧ errCode .logicError = 3 ∧
  errCode .timeoutError = 4 ∧ errCode .notReady = 5 ∧
  lifeCode .uninit = 0 ∧ lifeCode .resetting = 1 ∧ lifeCode .configuring = 2 ∧ lifeCode .ready = 3 ∧
  lifeCode .measuring = 4

/-! ## Control micro-operations -/

/-- R331, R342: END writes ERR and BUSY only (UPC keeps its value, ERRINFO is not cleared) and stands at 0x12 and
0x19; SETST writes STATE. -/
def Obligations.EndAndSetstMicroOps : Prop :=
  decodeMicro 0x00000000 = .ok .endCmd ∧
  (∀ s : State, exec .endCmd s = .next { s with err := .none, busy := false }) ∧
  Memory.read (Rom.image BcbConfig.defaults) 0x12 = some 0x00000000 ∧
  Memory.read (Rom.image BcbConfig.defaults) 0x19 = some 0x00000000 ∧
  decodeMicro 0x0B000400 = .ok (.setst .measuring) ∧
  (∀ st : LifeState, decodeMicro (microWord 0x0B 0 st.byteCode 0) = .ok (.setst st)) ∧
  (∀ (s : State) (st : LifeState) (u : Byte), s.upc = some u →
    exec (.setst st) s = .next { s with lifeState := st, upc := some (u + 1) })

/-- R332, R333: CALL writes LINK and UPC, RET writes UPC; an unwritten LINK is UnwrittenRead. The ROM's subroutine
contains no CALL: an inference R332 marks as derived from R360. -/
def Obligations.CallAndRetMicroOps : Prop :=
  decodeMicro 0x09000020 = .ok (.call 0x20) ∧ decodeMicro 0x0A000000 = .ok .ret ∧
  (∀ l : Byte, l ≤ 0x2E → decodeMicro (microWord 0x09 0 0 l) = .ok (.call l)) ∧
  (∀ (a : Nat) (w : MicroWord), 0x20 ≤ a → Memory.read (Rom.image BcbConfig.defaults) a = some w →
    opField w ≠ 0x09) ∧
  (∀ (s : State) (l u : Byte), l ≤ 0x2E → s.upc = some u →
    exec (.call l) s = .next { s with link := some (u + 1), upc := some l }) ∧
  (∀ (s : State) (l : Byte), s.link = some l → exec .ret s = .next { s with upc := some l }) ∧
  (∀ s : State, s.link = none → exec .ret s = .fault (.unwrittenRead .link))

/-- R335: BBUSY goes on when the masked bits are clear, raises TimeoutError at the poll limit, and branches back
otherwise; status bits outside the mask are ignored. -/
def Obligations.BbusyMicroOp : Prop :=
  decodeMicro 0x08000823 = .ok (.bbusy 0x08 0x23) ∧
  (∀ m l : Byte, l ≤ 0x2E → decodeMicro (microWord 0x08 0 m l) = .ok (.bbusy m l)) ∧
  (∀ (s : State) (m l d u : Byte), l ≤ 0x2E → s.rdata = some d → d &&& m = 0 → s.upc = some u →
    exec (.bbusy m l) s = .next { s with upc := some (u + 1) }) ∧
  (∀ (s : State) (m l d : Byte), l ≤ 0x2E → s.rdata = some d → d &&& m ≠ 0 → s.cfg.pollLimit = none →
    exec (.bbusy m l) s = .next { s with upc := some l }) ∧
  (∀ (s : State) (m l d : Byte) (n : Nat) (limit : ℕ+), l ≤ 0x2E → s.rdata = some d → d &&& m ≠ 0 →
    s.cfg.pollLimit = some limit → s.pollcnt = some n → n < limit →
    exec (.bbusy m l) s = .next { s with upc := some l }) ∧
  (∀ (s : State) (m l d : Byte) (n : Nat) (limit : ℕ+) (c : HostCmd), l ≤ 0x2E → s.rdata = some d →
    d &&& m ≠ 0 → s.cfg.pollLimit = some limit → s.pollcnt = some n → limit ≤ n → s.cmd = some c →
    exec (.bbusy m l) s = .next (abortWith (.poll d m) c s))

/-- R336, R337: PINIT clears POLLCNT; PWAIT is one Sleep event and adds one to POLLCNT. The ROM (R360) sleeps
before the first status read of each loop. The bus after PWAIT is the model's: the event goes into its trace, an attached
fixture makes progress (log 17, PRESUMED), and the answers written down stay (log 3, DESIGN CHOICE). -/
def Obligations.PollCounterMicroOps : Prop :=
  decodeMicro 0x06000000 = .ok .pinit ∧ decodeMicro 0x07000000 = .ok .pwait ∧
  Memory.read (Rom.image BcbConfig.defaults) 0x05 = some 0x06000000 ∧
  Memory.read (Rom.image BcbConfig.defaults) 0x06 = some 0x07000000 ∧
  Memory.read (Rom.image BcbConfig.defaults) 0x22 = some 0x06000000 ∧
  Memory.read (Rom.image BcbConfig.defaults) 0x23 = some 0x07000000 ∧
  (∀ (s : State) (u : Byte), s.upc = some u →
    exec .pinit s = .next { s with pollcnt := some 0, upc := some (u + 1) }) ∧
  (∀ (s : State) (u : Byte) (n : Nat), s.upc = some u → s.pollcnt = some n →
    exec .pwait s = .next
      { s with bus := Bus.sleep s.cfg.pollInterval s.bus, pollcnt := some (n + 1), upc := some (u + 1) }) ∧
  (∀ (ms : Nat) (b : Bus), (Bus.sleep ms b).trace = b.trace ++ [.sleep ms] ∧ (Bus.sleep ms b).script = b.script)

/-- R341: CHKID goes on when RDATA is the expected byte, and otherwise raises ProtocolError with the byte read. In
the ROM no WR precedes it. -/
def Obligations.ChkidMicroOp : Prop :=
  decodeMicro 0x05006000 = .ok (.chkid 0x60) ∧
  (∀ v : Byte, decodeMicro (microWord 0x05 0 v 0) = .ok (.chkid v)) ∧
  (∀ a < 3, ∀ w : MicroWord, Memory.read (Rom.image BcbConfig.defaults) a = some w → opField w ≠ 0x02) ∧
  (∀ (s : State) (v u : Byte), s.rdata = some v → s.upc = some u →
    exec (.chkid v) s = .next { s with upc := some (u + 1) }) ∧
  (∀ (s : State) (v d : Byte) (c : HostCmd), s.rdata = some d → d ≠ v → s.cmd = some c →
    exec (.chkid v) s = .next (abortWith (.chipId d) c s) ∧ errKindOf (.chipId d) = .protocolError)

/-- R343, R96: COMMIT writes the three samples and SAMPLE_VALID in one step. -/
def Obligations.CommitMicroOp : Prop :=
  decodeMicro 0x16000000 = .ok .commit ∧
  (∀ (s : State) (u : Byte) (t p h : F64), s.upc = some u → s.tNew = some t → s.pNew = some p → s.hNew = some h →
    exec .commit s = .next
      { s with
        sampleT := some t, sampleP := some p, sampleH := some h, sampleValid := true, upc := some (u + 1) })

/-! ## Calibration -/

/-- R200 to R207, R221: PCAL. Under NIBBLE12 every byte of the two blocks but BUF1[24] takes part, each in its place;
under WORD16 dig_H4, dig_H5 and dig_H6 come from bytes 3 to 7 of block 2. -/
def Obligations.PcalMicroOp : Prop :=
  decodeMicro 0x10000000 = .ok .pcal ∧
  (∀ (s : State) (u : Byte) (b1 b2 : Nat → Byte), s.upc = some u → s.cfg.h45Layout = .nibble12 →
    (∀ i < 26, i ≠ 24 → byteAt s.buf1 i = some (b1 i)) → (∀ i < 7, byteAt s.buf2 i = some (b2 i)) →
    exec .pcal s = .next
      { s with
        cal := some
          { digT1 := word16 (b1 0) (b1 1), digT2 := word16 (b1 2) (b1 3), digT3 := word16 (b1 4) (b1 5)
            digP1 := word16 (b1 6) (b1 7), digP2 := word16 (b1 8) (b1 9), digP3 := word16 (b1 10) (b1 11)
            digP4 := word16 (b1 12) (b1 13), digP5 := word16 (b1 14) (b1 15), digP6 := word16 (b1 16) (b1 17)
            digP7 := word16 (b1 18) (b1 19), digP8 := word16 (b1 20) (b1 21), digP9 := word16 (b1 22) (b1 23)
            digH1 := b1 25, digH2 := word16 (b2 0) (b2 1), digH3 := b2 2
            digH4 := nibbleH4 (b2 3) (b2 4), digH5 := nibbleH5 (b2 5) (b2 4), digH6 := b2 6 }
        calValid := true
        upc := some (u + 1) }) ∧
  (∀ (s : State) (u : Byte) (b1 b2 : Nat → Byte), s.upc = some u → s.cfg.h45Layout = .word16 →
    (∀ i < 26, i ≠ 24 → byteAt s.buf1 i = some (b1 i)) → (∀ i < 8, byteAt s.buf2 i = some (b2 i)) →
    exec .pcal s = .next
      { s with
        cal := some
          { digT1 := word16 (b1 0) (b1 1), digT2 := word16 (b1 2) (b1 3), digT3 := word16 (b1 4) (b1 5)
            digP1 := word16 (b1 6) (b1 7), digP2 := word16 (b1 8) (b1 9), digP3 := word16 (b1 10) (b1 11)
            digP4 := word16 (b1 12) (b1 13), digP5 := word16 (b1 14) (b1 15), digP6 := word16 (b1 16) (b1 17)
            digP7 := word16 (b1 18) (b1 19), digP8 := word16 (b1 20) (b1 21), digP9 := word16 (b1 22) (b1 23)
            digH1 := b1 25, digH2 := word16 (b2 0) (b2 1), digH3 := b2 2
            digH4 := word16 (b2 3) (b2 4), digH5 := word16 (b2 5) (b2 6), digH6 := b2 7 }
        calValid := true
        upc := some (u + 1) })

/-- R201 to R206: what the stored coefficients are as numbers. The 16-bit ones are read little-endian, unsigned or
signed; the nibble-packed ones are exact and lie in -2048..2047; dig_P1 is read by P1_SIGNEDNESS (R203). -/
def Obligations.CoefficientValues : Prop :=
  (∀ lo hi : Byte, (word16 lo hi).toNat = hi.toNat * 256 + lo.toNat ∧
    (word16 lo hi).toInt =
      if hi.toNat < 128 then (hi.toNat * 256 + lo.toNat : Int) else hi.toNat * 256 + lo.toNat - 65536) ∧
  (∀ b3 b4 : Byte, (nibbleH4 b3 b4).toInt = b3.toInt * 16 + (b4.toNat % 16 : Nat) ∧
    -2048 ≤ (nibbleH4 b3 b4).toInt ∧ (nibbleH4 b3 b4).toInt ≤ 2047) ∧
  (∀ b5 b4 : Byte, (nibbleH5 b5 b4).toInt = b5.toInt * 16 + (b4.toNat / 16 : Nat) ∧
    -2048 ≤ (nibbleH5 b5 b4).toInt ∧ (nibbleH5 b5 b4).toInt ≤ 2047) ∧
  (∀ c : Cal, Cal.p1 .unsigned c = c.digP1.toNat ∧ Cal.p1 .signed c = c.digP1.toInt ∧
    (Cal.p1 .unsigned c ≠ Cal.p1 .signed c ↔ 0x8000 ≤ c.digP1))

/-! ## The measurement burst -/

/-- R241, R131: CHKRSV passes when both reserved nibbles are zero, and otherwise raises one LogicError that records
both. R240: DECODE assembles the three counts, most significant byte first and with no bit lost, and increments
RAW_GEN. -/
def Obligations.BurstMicroOps : Prop :=
  decodeMicro 0x11000000 = .ok .chkrsv ∧
  (∀ (s : State) (b2 b5 u : Byte), byteAt s.bufd 2 = some b2 → byteAt s.bufd 5 = some b5 → s.upc = some u →
    b2.toNat % 16 = 0 → b5.toNat % 16 = 0 → exec .chkrsv s = .next { s with upc := some (u + 1) }) ∧
  (∀ (s : State) (b2 b5 : Byte) (c : HostCmd), byteAt s.bufd 2 = some b2 → byteAt s.bufd 5 = some b5 →
    s.cmd = some c → (b2.toNat % 16 ≠ 0 ∨ b5.toNat % 16 ≠ 0) →
    exec .chkrsv s = .next
      (abortWith (.reserved (BitVec.ofNat 4 (b2.toNat % 16)) (BitVec.ofNat 4 (b5.toNat % 16))) c s)) ∧
  decodeMicro 0x12000000 = .ok .decode ∧
  (∀ (s : State) (u : Byte) (b : Nat → Byte), s.upc = some u → (∀ i < 8, byteAt s.bufd i = some (b i)) →
    ∃ (p t : BitVec 20) (h : BitVec 16),
      exec .decode s = .next
        { s with rawP := some p, rawT := some t, rawH := some h, rawGen := s.rawGen + 1, upc := some (u + 1) } ∧
      p.toNat = (b 0).toNat * 4096 + (b 1).toNat * 16 + (b 2).toNat / 16 ∧
      t.toNat = (b 3).toNat * 4096 + (b 4).toNat * 16 + (b 5).toNat / 16 ∧
      h.toNat = (b 6).toNat * 256 + (b 7).toNat)

/-! ## Compensation -/

/-- R245, R246: COMPT in binary64, operation by operation. -/
def Obligations.ComptDouble : Prop :=
  decodeMicro 0x13000000 = .ok .compt ∧
  ∀ (s : State) (u : Byte) (raw : BitVec 20) (c : Cal) (adc t1 a var1 var2 sum : F64),
    s.upc = some u → s.rawT = some raw → s.cal = some c → s.cfg.compVariant = .double →
    adc = F64.ofInt raw.toNat → t1 = F64.ofInt c.digT1.toNat →
    var1 = F64.mul (F64.sub (F64.div adc (F64.ofInt 16384)) (F64.div t1 (F64.ofInt 1024)))
      (F64.ofInt c.digT2.toInt) →
    a = F64.sub (F64.div adc (F64.ofInt 131072)) (F64.div t1 (F64.ofInt 8192)) →
    var2 = F64.mul (F64.mul a a) (F64.ofInt c.digT3.toInt) →
    sum = F64.add var1 var2 →
    exec .compt s = .next
      { s with
        tfine := some (BitVec.ofInt 32
          (match s.cfg.tfineRounding with
            | .floor => F64.floor sum
            | .trunc => F64.trunc sum))
        tNew := some (F64.div sum (F64.ofInt 5120))
        tfineGen := s.rawGen
        upc := some (u + 1) }

/-- R247, R265: for every raw count and every coefficient set, `var1`, `var2` and their sum are finite and bounded,
TFINE fits its register under both roundings and converts to binary64 exactly, and T_NEW lies in (-820, 820). -/
def Obligations.TfineFits : Prop :=
  ∀ (raw : BitVec 20) (c : Cal) (r : TfineRounding),
    F64.isFinite (tVar1 raw c) = true ∧ |F64.value (tVar1 raw c)| < 2 ^ 21 ∧
    F64.isFinite (tVar2 raw c) = true ∧ |F64.value (tVar2 raw c)| ≤ 2 ^ 21 ∧
    F64.isFinite (tSum raw c) = true ∧ |F64.value (tSum raw c)| < 2 ^ 22 ∧
    (BitVec.ofInt 32 (tfineRound r (tSum raw c))).toInt = tfineRound r (tSum raw c) ∧
    F64.value (F64.ofInt (tfineRound r (tSum raw c))) = tfineRound r (tSum raw c) ∧
    F64.isFinite (tNewOf (tSum raw c)) = true ∧ |F64.value (tNewOf (tSum raw c))| < 820

/-- R246: FLOOR is the default; on a finite number FLOOR is the floor and TRUNC rounds toward zero; they differ exactly below zero off
the integers, and then by one. -/
def Obligations.TfineRoundings : Prop :=
  BcbConfig.defaults.tfineRounding = .floor ∧
  ∀ x : F64, F64.isFinite x = true →
    tfineRound .floor x = ⌊F64.value x⌋ ∧
    (tfineRound .trunc x = if F64.value x < 0 then ⌈F64.value x⌉ else ⌊F64.value x⌋) ∧
    (tfineRound .floor x ≠ tfineRound .trunc x ↔ F64.value x < 0 ∧ ∀ n : Int, F64.value x ≠ n) ∧
    (tfineRound .floor x ≠ tfineRound .trunc x → tfineRound .floor x = tfineRound .trunc x - 1)

/-- R250, R251: COMPP in binary64, operation by operation; a denominator equal to 0.0 gives +0.0 with no division. -/
def Obligations.ComppDouble : Prop :=
  decodeMicro 0x14000000 = .ok .compp ∧
  ∀ (s : State) (u : Byte) (f : BitVec 32) (raw : BitVec 20) (c : Cal) (p1 v1 v2 den p p' : F64),
    s.upc = some u → s.tfine = some f → s.rawP = some raw → s.cal = some c → s.tfineGen = s.rawGen →
    s.cfg.compVariant = .double →
    p1 = F64.ofInt (match s.cfg.p1Signedness with
      | .unsigned => (c.digP1.toNat : Int)
      | .signed => c.digP1.toInt) →
    v1 = F64.sub (F64.div (F64.ofInt f.toInt) (F64.ofInt 2)) (F64.ofInt 64000) →
    v2 = F64.add
      (F64.div
        (F64.add (F64.div (F64.mul (F64.mul v1 v1) (F64.ofInt c.digP6.toInt)) (F64.ofInt 32768))
          (F64.mul (F64.mul v1 (F64.ofInt c.digP5.toInt)) (F64.ofInt 2)))
        (F64.ofInt 4))
      (F64.mul (F64.ofInt c.digP4.toInt) (F64.ofInt 65536)) →
    den = F64.mul
      (F64.add (F64.ofInt 1)
        (F64.div
          (F64.div
            (F64.add (F64.div (F64.mul (F64.mul (F64.ofInt c.digP3.toInt) v1) v1) (F64.ofInt 524288))
              (F64.mul (F64.ofInt c.digP2.toInt) v1))
            (F64.ofInt 524288))
          (F64.ofInt 32768)))
      p1 →
    p = F64.div
      (F64.mul (F64.sub (F64.sub (F64.ofInt 1048576) (F64.ofInt raw.toNat)) (F64.div v2 (F64.ofInt 4096)))
        (F64.ofInt 6250))
      den →
    p' = F64.add p
      (F64.div
        (F64.add
          (F64.add (F64.div (F64.mul (F64.mul (F64.ofInt c.digP9.toInt) p) p) (F64.ofInt 2147483648))
            (F64.div (F64.mul p (F64.ofInt c.digP8.toInt)) (F64.ofInt 32768)))
          (F64.ofInt c.digP7.toInt))
        (F64.ofInt 16)) →
    exec .compp s = .next
      { s with
        pNew := some (if F64.isZero den then 0x0000000000000000 else p')
        upc := some (u + 1) }

/-- R252: P_NEW is finite for every raw count, every TFINE in the range of R247 and every coefficient set; R250, R251:
dig_P1 = 0 gives P_NEW = +0.0. -/
def Obligations.PressureFinite : Prop :=
  (∀ (sgn : Signedness) (f : Int) (raw : BitVec 20) (c : Cal), |f| < 2 ^ 22 →
    F64.isFinite (pNewOf sgn f raw c) = true) ∧
  (∀ (sgn : Signedness) (f : Int) (raw : BitVec 20) (c : Cal), |f| < 2 ^ 22 → c.digP1 = 0 →
    pNewOf sgn f raw c = 0x0000000000000000)

/-- R260, R261: COMPH in binary64, operation by operation, with the clamp's two comparisons; -0.0 passes. -/
def Obligations.ComphDouble : Prop :=
  decodeMicro 0x15000000 = .ok .comph ∧
  (∀ (s : State) (u : Byte) (f : BitVec 32) (raw : BitVec 16) (c : Cal) (h left right g g' : F64),
    s.upc = some u → s.tfine = some f → s.rawH = some raw → s.cal = some c → s.tfineGen = s.rawGen →
    s.cfg.compVariant = .double →
    h = F64.sub (F64.ofInt f.toInt) (F64.ofInt 76800) →
    left = F64.sub (F64.ofInt raw.toNat)
      (F64.add (F64.mul (F64.ofInt c.digH4.toInt) (F64.ofInt 64))
        (F64.mul (F64.div (F64.ofInt c.digH5.toInt) (F64.ofInt 16384)) h)) →
    right = F64.mul (F64.div (F64.ofInt c.digH2.toInt) (F64.ofInt 65536))
      (F64.add (F64.ofInt 1)
        (F64.mul (F64.mul (F64.div (F64.ofInt c.digH6.toInt) (F64.ofInt 67108864)) h)
          (F64.add (F64.ofInt 1) (F64.mul (F64.div (F64.ofInt c.digH3.toNat) (F64.ofInt 67108864)) h)))) →
    g = F64.mul left right →
    g' = F64.mul g
      (F64.sub (F64.ofInt 1) (F64.div (F64.mul (F64.ofInt c.digH1.toNat) g) (F64.ofInt 524288))) →
    exec .comph s = .next { s with hNew := some (hClamp g'), upc := some (u + 1) }) ∧
  (∀ h : F64, F64.isFinite h = true →
    (100 < F64.value h → hClamp h = F64.ofInt 100) ∧ (F64.value h < 0 → hClamp h = 0x0000000000000000) ∧
    (0 ≤ F64.value h → F64.value h ≤ 100 → hClamp h = h)) ∧
  hClamp 0x8000000000000000 = 0x8000000000000000

/-- R38, R430: COMPP and COMPH fault with TfineMismatch when TFINE_GEN differs from RAW_GEN. -/
def Obligations.TfineMismatchFaults : Prop :=
  ∀ s : State, s.tfineGen ≠ s.rawGen →
    exec .compp s = .fault .tfineMismatch ∧ exec .comph s = .fault .tfineMismatch

/-- R281, R285, R290, R295, R300: the integer variants, operation by operation, by the primitives of R15, whose values
are said first. The integer words are kept beside the binary64 results (log 16). -/
def Obligations.IntegerVariantsComplete : Prop :=
  (∀ v : Int, -2 ^ 31 ≤ wrap32 v ∧ wrap32 v < 2 ^ 31 ∧ (2 : Int) ^ 32 ∣ wrap32 v - v) ∧
  (∀ v : Int, -2 ^ 63 ≤ wrap64 v ∧ wrap64 v < 2 ^ 63 ∧ (2 : Int) ^ 64 ∣ wrap64 v - v) ∧
  (∀ v : Int, 0 ≤ uwrap32 v ∧ uwrap32 v < 2 ^ 32 ∧ (2 : Int) ^ 32 ∣ uwrap32 v - v) ∧
  (∀ (v : Int) (n : Nat), asr v n = ⌊(v : ℚ) / 2 ^ n⌋ ∧ lsr v n = ⌊(v : ℚ) / 2 ^ n⌋ ∧
    shl32 v n = wrap32 (v * 2 ^ n) ∧ shl64 v n = wrap64 (v * 2 ^ n)) ∧
  (∀ a b : Int, tdiv64 a b = wrap64 (if 0 ≤ (a : ℚ) / b then ⌊(a : ℚ) / b⌋ else ⌈(a : ℚ) / b⌉) ∧
    (0 ≤ a → 0 < b → udiv a b = ⌊(a : ℚ) / b⌋)) ∧
  (∀ (s : State) (u : Byte) (raw : BitVec 20) (c : Cal) (d1 var1 d2 var2 tfine tInt : Int),
    s.upc = some u → s.rawT = some raw → s.cal = some c → s.cfg.compVariant ≠ .double →
    d1 = wrap32 (asr raw.toNat 3 - shl32 c.digT1.toNat 1) →
    var1 = asr (wrap32 (d1 * c.digT2.toInt)) 11 →
    d2 = wrap32 (asr raw.toNat 4 - c.digT1.toNat) →
    var2 = asr (wrap32 (asr (wrap32 (d2 * d2)) 12 * c.digT3.toInt)) 14 →
    tfine = wrap32 (var1 + var2) →
    tInt = asr (wrap32 (tfine * 5 + 128)) 8 →
    exec .compt s = .next
      { s with
        tfine := some (BitVec.ofInt 32 tfine), tInt := some (BitVec.ofInt 32 tInt)
        tNew := some (F64.div (F64.ofInt tInt) (F64.ofInt 100)), tfineGen := s.rawGen, upc := some (u + 1) }) ∧
  (∀ (s : State) (u : Byte) (f : BitVec 32) (raw : BitVec 20) (c : Cal) (p1 v1 v2 den p q pInt : Int),
    s.upc = some u → s.tfine = some f → s.rawP = some raw → s.cal = some c → s.tfineGen = s.rawGen →
    s.cfg.compVariant = .int64p →
    p1 = (match s.cfg.p1Signedness with
      | .unsigned => (c.digP1.toNat : Int)
      | .signed => c.digP1.toInt) →
    v1 = wrap64 (f.toInt - 128000) →
    v2 = wrap64 (wrap64 (wrap64 (wrap64 (v1 * v1) * c.digP6.toInt) + shl64 (wrap64 (v1 * c.digP5.toInt)) 17)
      + shl64 c.digP4.toInt 35) →
    den = asr (wrap64 (wrap64 (shl64 1 47
      + wrap64 (asr (wrap64 (wrap64 (v1 * v1) * c.digP3.toInt)) 8 + shl64 (wrap64 (v1 * c.digP2.toInt)) 12))
      * p1)) 33 →
    p = tdiv64 (wrap64 (wrap64 (shl64 (1048576 - raw.toNat) 31 - v2) * 3125)) den →
    q = wrap64 (asr (wrap64 (p + asr (wrap64 (wrap64 (c.digP9.toInt * asr p 13) * asr p 13)) 25
      + asr (wrap64 (c.digP8.toInt * p)) 19)) 8 + shl64 c.digP7.toInt 4) →
    pInt = (if den = 0 then 0 else uwrap32 q) →
    exec .compp s = .next
      { s with
        pInt := some (BitVec.ofInt 32 pInt), pNew := some (F64.div (F64.ofInt pInt) (F64.ofInt 256))
        upc := some (u + 1) }) ∧
  (∀ (s : State) (u : Byte) (f : BitVec 32) (raw : BitVec 20) (c : Cal)
    (p1 v1 q v2 den u0 u1 u2 w1 w2 pInt : Int),
    s.upc = some u → s.tfine = some f → s.rawP = some raw → s.cal = some c → s.tfineGen = s.rawGen →
    s.cfg.compVariant = .int32p →
    p1 = (match s.cfg.p1Signedness with
      | .unsigned => (c.digP1.toNat : Int)
      | .signed => c.digP1.toInt) →
    v1 = wrap32 (asr f.toInt 1 - 64000) →
    q = wrap32 (asr v1 2 * asr v1 2) →
    v2 = wrap32 (asr (wrap32 (wrap32 (asr q 11 * c.digP6.toInt) + shl32 (wrap32 (v1 * c.digP5.toInt)) 1)) 2
      + shl32 c.digP4.toInt 16) →
    den = asr (wrap32 ((32768
      + asr (wrap32 (asr (wrap32 (c.digP3.toInt * asr q 13)) 3 + asr (wrap32 (c.digP2.toInt * v1)) 1)) 18)
      * p1)) 15 →
    u0 = uwrap32 (uwrap32 (1048576 - raw.toNat) - asr v2 12) →
    u1 = uwrap32 (u0 * 3125) →
    u2 = (if u1 < 0x80000000 then udiv (uwrap32 (u1 * 2)) (uwrap32 den)
      else uwrap32 (udiv u1 (uwrap32 den) * 2)) →
    w1 = asr (wrap32 (c.digP9.toInt * wrap32 (lsr (uwrap32 (lsr u2 3 * lsr u2 3)) 13))) 12 →
    w2 = asr (wrap32 (wrap32 (lsr u2 2) * c.digP8.toInt)) 13 →
    pInt = (if den = 0 then 0 else uwrap32 (wrap32 u2 + asr (wrap32 (w1 + w2 + c.digP7.toInt)) 4)) →
    exec .compp s = .next
      { s with
        pInt := some (BitVec.ofInt 32 pInt), pNew := some (F64.ofInt pInt), upc := some (u + 1) }) ∧
  (∀ (s : State) (u : Byte) (f : BitVec 32) (raw : BitVec 16) (c : Cal) (x a b k b' y z hInt : Int),
    s.upc = some u → s.tfine = some f → s.rawH = some raw → s.cal = some c → s.tfineGen = s.rawGen →
    s.cfg.compVariant ≠ .double →
    x = wrap32 (f.toInt - 76800) →
    a = asr (wrap32 (wrap32 (shl32 raw.toNat 14 - shl32 c.digH4.toInt 20 - wrap32 (c.digH5.toInt * x))
      + 16384)) 15 →
    b = asr (wrap32 (x * c.digH6.toInt)) 10 →
    k = wrap32 (asr (wrap32 (x * c.digH3.toNat)) 11 + 32768) →
    b' = asr (wrap32 (wrap32 (wrap32 (asr (wrap32 (b * k)) 10 + 2097152) * c.digH2.toInt) + 8192)) 14 →
    y = wrap32 (a * b') →
    z = wrap32 (y - asr (wrap32 (asr (wrap32 (asr y 15 * asr y 15)) 7 * c.digH1.toNat)) 4) →
    hInt = asr (if z < 0 then 0 else if 419430400 < z then 419430400 else z) 12 →
    exec .comph s = .next
      { s with
        hInt := some (BitVec.ofInt 32 hInt), hNew := some (F64.div (F64.ofInt hInt) (F64.ofInt 1024))
        upc := some (u + 1) })

/-- R280, R281, R285, R290, R295: the words the integer variants store lose nothing in their 32-bit registers, H_INT
lies in 0..102400, and dig_P1 = 0 gives pressure 0 for every TFINE, raw count and other coefficient. -/
def Obligations.IntegerWordsFit : Prop :=
  (∀ (raw : BitVec 20) (c : Cal), (BitVec.ofInt 32 (tfineFixed raw c)).toInt = tfineFixed raw c) ∧
  (∀ (raw : BitVec 20) (c : Cal),
    (BitVec.ofInt 32 (tIntOf (tfineFixed raw c))).toInt = tIntOf (tfineFixed raw c)) ∧
  (∀ (sgn : Signedness) (f : Int) (raw : BitVec 20) (c : Cal),
    ((BitVec.ofInt 32 (pIntOf64 sgn f raw c)).toNat : Int) = pIntOf64 sgn f raw c ∧
    ((BitVec.ofInt 32 (pIntOf32 sgn f raw c)).toNat : Int) = pIntOf32 sgn f raw c) ∧
  (∀ (f : Int) (raw : BitVec 16) (c : Cal), 0 ≤ hIntOf f raw c ∧ hIntOf f raw c ≤ 102400) ∧
  (∀ (sgn : Signedness) (f : Int) (raw : BitVec 20) (c : Cal), c.digP1 = 0 →
    pNewFixed64 (pIntOf64 sgn f raw c) = 0x0000000000000000 ∧
    pNewFixed32 (pIntOf32 sgn f raw c) = 0x0000000000000000)

/-- R266: COMPT, COMPP and COMPH are pure. Two states that agree on the parameters, the raw count, the coefficients
and (for COMPP and COMPH) TFINE get identical results. -/
def Obligations.CompensationIsPure : Prop :=
  ∀ s s' t t' : State, s.cfg = s'.cfg → s.cal = s'.cal →
    (s.rawT = s'.rawT → exec .compt s = .next t → exec .compt s' = .next t' →
      t.tfine = t'.tfine ∧ t.tNew = t'.tNew ∧ t.bus = s.bus) ∧
    (s.tfine = s'.tfine → s.rawP = s'.rawP → exec .compp s = .next t → exec .compp s' = .next t' →
      t.pNew = t'.pNew ∧ t.bus = s.bus) ∧
    (s.tfine = s'.tfine → s.rawH = s'.rawH → exec .comph s = .next t → exec .comph s' = .next t' →
      t.hNew = t'.hNew ∧ t.bus = s.bus)

/-! ## Binary64 -/

/-- R16: rounding to nearest, ties to even. A finite result is at least as near to the exact number as every other
finite pattern; where another value is just as near, the result's fraction is even; and the result is finite
exactly below half a unit past the largest finite number. -/
def Obligations.RoundsToNearestEven : Prop :=
  ∀ (z : Bool) (q : ℚ),
    (F64.isFinite (F64.round z q) = true ↔ |q| < 2 ^ 1024 - 2 ^ 970) ∧
    (F64.isFinite (F64.round z q) = true → ∀ y : F64, F64.isFinite y = true →
      |F64.value (F64.round z q) - q| ≤ |F64.value y - q| ∧
      (|F64.value (F64.round z q) - q| = |F64.value y - q| → F64.value y ≠ F64.value (F64.round z q) →
        F64.fracField (F64.round z q) % 2 = 0))

/-- R16: each operation on finite operands is one rounding of the exact result, and integers below 2^53 in magnitude
convert exactly. An exact zero takes the sign the operation gives, every other result the sign of the exact one. -/
def Obligations.OperationsRoundOnce : Prop :=
  (∀ a b : F64, F64.isFinite a = true → F64.isFinite b = true →
    F64.add a b = F64.round (F64.signBit a && F64.signBit b) (F64.value a + F64.value b) ∧
    F64.sub a b = F64.round (F64.signBit a && !F64.signBit b) (F64.value a - F64.value b) ∧
    F64.mul a b = F64.round (F64.signBit a != F64.signBit b) (F64.value a * F64.value b) ∧
    (F64.isZero b = false →
      F64.div a b = F64.round (F64.signBit a != F64.signBit b) (F64.value a / F64.value b))) ∧
  (∀ n : Int, |n| < 2 ^ 53 → F64.isFinite (F64.ofInt n) = true ∧ F64.value (F64.ofInt n) = n) ∧
  (∀ z : Bool, F64.round z 0 = F64.zero z ∧ F64.zero false = 0x0000000000000000 ∧
    F64.zero true = 0x8000000000000000) ∧
  (∀ (z : Bool) (q : ℚ), q ≠ 0 → F64.signBit (F64.round z q) = decide (q < 0))

/-! ## Invariants and rules of the whole machine -/

/-- R99: no step changes the micro-ROM; R421: nor the parameters, which the model holds in State by log 4 (DESIGN
CHOICE: the spec calls them no state). -/
def Obligations.RomAndParametersFixed : Prop :=
  ∀ s t : State, step s = .next t → t.rom = s.rom ∧ t.cfg = s.cfg

/-- R34: the receive buffers keep their sizes; they have them after power-up. -/
def Obligations.BufferSizesKept : Prop :=
  (∀ p : BcbConfig, buffersSized (State.powerUp p)) ∧
  (∀ s t : State, buffersSized s → step s = .next t → buffersSized t)

/-- R40, R260, R295: every humidity the machine holds stays within [0, 100], whatever the counts, the coefficients,
TFINE and the variant. It holds after power-up, where none is held. -/
def Obligations.HumidityStaysInRange : Prop :=
  (∀ p : BcbConfig, humidityInRange (State.powerUp p)) ∧
  (∀ s t : State, humidityInRange s → step s = .next t → humidityInRange t)

/-- R30 and the rules R32 to R47: each element is changed only by what the spec lists for it: its micro-operations, the
acceptance of a host command, and an abort, which writes STATE, BUSY, ERR and ERRINFO and, in a RESET, clears the
three valid bits. -/
def Obligations.EachElementHasItsWriters : Prop :=
  ∀ (s t s' : State) (i : Instr) (w : Option (Byte × Byte)), fetch s = .run i s' w → step s = .next t →
    (t.rdata ≠ s.rdata → ∃ a, i = .rd a) ∧
    (t.buf1 ≠ s.buf1 → ∃ a n, i = .rdb a n .buf1) ∧ (t.buf2 ≠ s.buf2 → ∃ a n, i = .rdb a n .buf2) ∧
    (t.bufd ≠ s.bufd → ∃ a n, i = .rdb a n .bufd) ∧
    (t.cal ≠ s.cal → i = .pcal) ∧ (t.calValid = true → s.calValid = false → i = .pcal) ∧
    (t.rawP ≠ s.rawP ∨ t.rawT ≠ s.rawT ∨ t.rawH ≠ s.rawH ∨ t.rawGen ≠ s.rawGen → i = .decode) ∧
    (t.tfine ≠ s.tfine ∨ t.tfineGen ≠ s.tfineGen ∨ t.tNew ≠ s.tNew ∨ t.tInt ≠ s.tInt → i = .compt) ∧
    (t.pNew ≠ s.pNew ∨ t.pInt ≠ s.pInt → i = .compp) ∧ (t.hNew ≠ s.hNew ∨ t.hInt ≠ s.hInt → i = .comph) ∧
    (t.sampleT ≠ s.sampleT ∨ t.sampleP ≠ s.sampleP ∨ t.sampleH ≠ s.sampleH → i = .commit) ∧
    (t.sampleValid = true → s.sampleValid = false → i = .commit) ∧
    (t.link ≠ s.link → ∃ l, i = .call l) ∧ (t.pollcnt ≠ s.pollcnt → i = .pinit ∨ i = .pwait) ∧
    (t.cmd ≠ s.cmd → i = .reset ∨ i = .refresh) ∧
    (t.sessionBound = true → s.sessionBound = false → i = .bind ∨ i = .bindSession) ∧
    (t.lifeState ≠ s.lifeState → (∃ st, i = .setst st) ∨ abortedStep s t) ∧
    (t.busy ≠ s.busy → i = .reset ∨ i = .refresh ∨ i = .endCmd ∨ abortedStep s t) ∧
    (t.upc ≠ s.upc → i = .reset ∨ i = .refresh ∨ (s.busy = true ∧ t.busy = true ∧ i ≠ .endCmd)) ∧
    (t.err ≠ s.err → i = .endCmd ∨ i = .readT ∨ i = .readP ∨ i = .readH ∨
      ∃ info, t.errInfo = some info ∧ t.err = errKindOf info) ∧
    (t.errInfo ≠ s.errInfo → ∃ info, t.errInfo = some info ∧ t.err = errKindOf info) ∧
    ((s.calValid = true ∧ t.calValid = false) ∨ (s.sampleValid = true ∧ t.sampleValid = false) ∨
      (s.sessionBound = true ∧ t.sessionBound = false) →
      abortedStep s t ∧ s.cmd = some .reset ∧ t.lifeState = .uninit) ∧
    (t.hostReturns ≠ s.hostReturns → i = .readT ∨ i = .readP ∨ i = .readH)

/-- R362: the control invariant is kept by every step. -/
def Obligations.ControlInvariantKept : Prop :=
  ∀ s t : State, ControlInv s → step s = .next t → ControlInv t

/-- R389, R362: where the control invariant holds no step is a model fault. -/
def Obligations.NoFaultUnderControlInvariant : Prop :=
  ∀ (s : State) (f : Fault), ControlInv s → step s ≠ .fault f

/-- R442: the control invariant holds at every launch, whatever the host commands and the bus. -/
def Obligations.ControlInvariantAtLaunch : Prop :=
  ∀ (p : BcbConfig) (commands : List Byte) (bus : Bus), romParams p → ControlInv (launch p commands bus)

/-- R389: no fault is reachable from the reset state by any sequence of host commands and oracle answers, in any
number of steps. -/
def Obligations.NoFaultReachable : Prop :=
  ∀ (p : BcbConfig) (commands : List Byte) (bus : Bus) (n : Nat) (f : Fault), romParams p →
    Host.Core.run Sys2Proof.core n (launch p commands bus) ≠ .fault f

/-- R351, R396: under the control invariant the BCB writes no sensor register but those its ROM lists: in
particular `ctrl_meas` only with its two values. -/
def Obligations.OnlyRomWritesOnTheBus : Prop :=
  ∀ s t : State, ControlInv s → onlyRomWrites s → step s = .next t → onlyRomWrites t

/-- R362 point 6: with a finite POLL_LIMIT n a REFRESH ends, by END or by an abort, within 14 + 3n micro-steps. -/
def Obligations.RefreshEndsInBound : Prop :=
  ∀ (s : State) (n : ℕ+), ControlInv s → s.busy = true → s.upc = some 0x18 → s.cfg.pollLimit = some n →
    ∃ (m : Nat) (t : State), m ≤ 14 + 3 * n ∧ Host.Core.run Sys2Proof.core m s = .next t ∧ t.busy = false

/-- R362 point 6: with a finite POLL_LIMIT n a RESET ends, by END or by an abort, within 40 + 9n micro-steps under the
default PRIMING_COUNT of 2, and within 14 + 13k + 3(k + 1)n under a PRIMING_COUNT k. -/
def Obligations.ResetEndsInBound : Prop :=
  (∀ (s : State) (n : ℕ+), ControlInv s → s.busy = true → s.upc = some 0x00 → s.cfg.pollLimit = some n →
    s.cfg.primingCount = 2 →
    ∃ (m : Nat) (t : State), m ≤ 40 + 9 * n ∧ Host.Core.run Sys2Proof.core m s = .next t ∧ t.busy = false) ∧
  (∀ (s : State) (n : ℕ+), ControlInv s → s.busy = true → s.upc = some 0x00 → s.cfg.pollLimit = some n →
    ∃ (m : Nat) (t : State),
      m ≤ 14 + 13 * s.cfg.primingCount.toNat + 3 * (s.cfg.primingCount.toNat + 1) * n ∧
      Host.Core.run Sys2Proof.core m s = .next t ∧ t.busy = false)

/-- R341, R362 point 1: a RESET that reads a wrong chip id ends in four micro-steps with ProtocolError, and no
register write has reached the bus. -/
def Obligations.WrongChipIdWritesNothing : Prop :=
  ∀ (s : State) (a1 a2 a3 : BusAnswer) (rest : List BusAnswer) (d : Byte) (ds : List Byte), ControlInv s →
    s.busy = true → s.upc = some 0x00 → s.bus.script = a1 :: a2 :: a3 :: rest →
    a1.bindOk = true → 1 ≤ a2.accepted → a3.bytes = d :: ds → d ≠ s.cfg.chipIdExpected →
    ∃ t : State, Host.Core.run Sys2Proof.core 4 s = .next t ∧
      t.busy = false ∧ t.err = .protocolError ∧ t.errInfo = some (.chipId d) ∧ t.lifeState = .uninit ∧
      t.sessionBound = false ∧ t.calValid = false ∧ t.sampleValid = false ∧
      t.bus.trace = s.bus.trace ++
        [.bind s.cfg.slaveAddr true, .write [s.cfg.regChipId] 1, .read 1 [d]]

/-- R408: the observer has no effect. A machine whose observer port is off takes the same steps. -/
def Obligations.ObserverHasNoEffect : Prop :=
  ∀ s : State,
    (∀ t, step s = .next t → step (withoutObserver s) = .next (withoutObserver t)) ∧
    (∀ f, step s = .fault f → step (withoutObserver s) = .fault f) ∧
    (∀ r, step s = .refused r → step (withoutObserver s) = .refused r)

/-! ## The sensor fixture -/

/-- R49, R51, R52, R57, R91, R113, on the sensor fixture of log 17 (the model's agent, PRESUMED). After a select of `a`,
byte `i` of a read is the register at `a + i`, and the pointer is left behind the last byte; a write of 0xB6 to
`reset` gives every register the value of R49's reset column and any other value does nothing; a write of `ctrl_hum` takes effect at the next write of
`ctrl_meas`. -/
def Obligations.SensorFixtureRegisters : Prop :=
  (∀ (x : Sensor) (a : Byte) (n d i : Nat), a.toNat + n ≤ 255 → i < n →
    Sensor.writeTransfer d x [a] = some { x with pointer := a } ∧
    (Sensor.readBytes n d { x with pointer := a }).1[i]? =
      some (Sensor.register x (a + BitVec.ofNat 8 i) (Config.freeByte (d + 2 * i))) ∧
    (Sensor.readBytes n d { x with pointer := a }).2 = { x with pointer := a + BitVec.ofNat 8 n }) ∧
  (∀ (x : Sensor) (d : Nat), Sensor.writeRegister d x 0xE0 0xB6 = some
    { x with
      id := 0x60, ctrlHum := 0x00, osrsH := 0, ctrlMeas := 0x00, config := 0x00, copyLeft := x.copyTime
      convLeft := 0
      data := [0x80, 0x00, 0x00, 0x80, 0x00, 0x00, 0x80, 0x00] }) ∧
  (∀ (x : Sensor) (d : Nat) (v : Byte), v ≠ 0xB6 → Sensor.writeRegister d x 0xE0 v = some x) ∧
  (∀ (x : Sensor) (d : Nat) (h : BitVec 3), Sensor.writeRegister d x 0xF2 (ctrlHumOf h) =
    some { x with ctrlHum := ctrlHumOf h }) ∧
  (∀ (x : Sensor) (d : Nat) (t p : BitVec 3), 0 < x.convTime →
    Sensor.writeRegister d x 0xF4 (ctrlMeasOf t p 0b01) = some
      { x with
        ctrlMeas := ctrlMeasOf t p 0b01, osrsH := ctrlHumOsrsH x.ctrlHum, convLeft := x.convTime })
end

