-- ==== Sys2Proof/Laws/Decode.lean ====
section
/-! SUPPORT. The fields of a micro-instruction put together from four fields (30_encoding.md R145). -/

namespace Sys2Proof

/-- The value of a word put together from its fields. -/
theorem microWord_toNat (op a b c : Byte) :
    (microWord op a b c).toNat = op.toNat * 2 ^ 24 + a.toNat * 2 ^ 16 + b.toNat * 2 ^ 8 + c.toNat := by
  have h1 := op.isLt; have h2 := a.isLt; have h3 := b.isLt; have h4 := c.isLt
  simp only [microWord, BitVec.toNat_append]
  rw [← Nat.shiftLeft_add_eq_or_of_lt h2, ← Nat.shiftLeft_add_eq_or_of_lt h3, ← Nat.shiftLeft_add_eq_or_of_lt h4]
  simp only [Nat.shiftLeft_eq]
  omega

@[simp] theorem opField_microWord (op a b c : Byte) : opField (microWord op a b c) = op := by
  apply BitVec.eq_of_toNat_eq
  have h1 := op.isLt; have h2 := a.isLt; have h3 := b.isLt; have h4 := c.isLt
  simp only [opField, BitVec.extractLsb'_toNat, microWord_toNat, Nat.shiftRight_eq_div_pow]
  omega

@[simp] theorem aField_microWord (op a b c : Byte) : aField (microWord op a b c) = a := by
  apply BitVec.eq_of_toNat_eq
  have h1 := op.isLt; have h2 := a.isLt; have h3 := b.isLt; have h4 := c.isLt
  simp only [aField, BitVec.extractLsb'_toNat, microWord_toNat, Nat.shiftRight_eq_div_pow]
  omega

@[simp] theorem bField_microWord (op a b c : Byte) : bField (microWord op a b c) = b := by
  apply BitVec.eq_of_toNat_eq
  have h1 := op.isLt; have h2 := a.isLt; have h3 := b.isLt; have h4 := c.isLt
  simp only [bField, BitVec.extractLsb'_toNat, microWord_toNat, Nat.shiftRight_eq_div_pow]
  omega

@[simp] theorem cField_microWord (op a b c : Byte) : cField (microWord op a b c) = c := by
  apply BitVec.eq_of_toNat_eq
  have h1 := op.isLt; have h2 := a.isLt; have h3 := b.isLt; have h4 := c.isLt
  simp only [cField, BitVec.extractLsb'_toNat, microWord_toNat, Nat.shiftRight_eq_div_pow]
  omega

/-- A word is put together from its own fields. -/
theorem microWord_fields (w : MicroWord) : microWord (opField w) (aField w) (bField w) (cField w) = w := by
  apply BitVec.eq_of_toNat_eq
  have h := w.isLt
  simp only [microWord_toNat, opField, aField, bField, cField, BitVec.extractLsb'_toNat,
    Nat.shiftRight_eq_div_pow]
  omega

end Sys2Proof
end

