-- ==== Sys2Proof/Laws/Memory.lean ====
section
/-! SUPPORT. The micro-ROM's memory: reading after a write, and the canonical form kept by every memory operation. -/

namespace Sys2Proof.Machine

/-- A read at the address written gives the word written. -/
theorem Memory.read_write_same (m : Memory) (a : Nat) (w : MicroWord) :
    Memory.read (Memory.write m a w) a = some w := by
  induction m with
  | nil => simp [Memory.write, Memory.read]
  | cons c rest ih =>
    obtain ⟨b, v⟩ := c
    simp only [Memory.write]
    split
    · simp [Memory.read]
    · split
      · simp [Memory.read]
      · rename_i h1 h2
        simp [Memory.read, ih, Ne.symm h2]

/-- A write leaves every other address as it was. -/
theorem Memory.read_write_other (m : Memory) (a b : Nat) (w : MicroWord) (h : b ≠ a) :
    Memory.read (Memory.write m a w) b = Memory.read m b := by
  induction m with
  | nil => simp [Memory.write, Memory.read, h.symm]
  | cons c rest ih =>
    obtain ⟨d, v⟩ := c
    simp only [Memory.write]
    split
    · simp [Memory.read, h.symm]
    · split
      · rename_i h1 h2
        subst h2
        simp [Memory.read, h.symm]
      · simp only [Memory.read, ih]

/-- The first address of a canonical memory is 8-bit, and the rest is canonical. -/
theorem Memory.wf_cons {a : Nat} {w : MicroWord} {m : Memory} (h : Memory.wf ((a, w) :: m) = true) :
    a < 256 ∧ Memory.wf m = true ∧ ∀ c ∈ m, a < c.1 := by
  induction m generalizing a w with
  | nil => simpa [Memory.wf] using h
  | cons c rest ih =>
    obtain ⟨b, v⟩ := c
    simp only [Memory.wf, Bool.and_eq_true, decide_eq_true_eq] at h
    obtain ⟨hb, -, hrest⟩ := ih h.2
    refine ⟨by omega, h.2, ?_⟩
    rintro d (_ | ⟨_, hd⟩)
    · exact h.1
    · exact h.1.trans (hrest d hd)

/-- A cell put before a canonical memory of higher addresses keeps the form. -/
theorem Memory.wf_cons_of {a : Nat} {w : MicroWord} {m : Memory} (ha : a < 256) (hm : Memory.wf m = true)
    (hlt : ∀ c ∈ m, a < c.1) : Memory.wf ((a, w) :: m) = true := by
  cases m with
  | nil => simpa [Memory.wf] using ha
  | cons c rest =>
    have := hlt c (by simp)
    simp [Memory.wf, hm, this]

/-- The cells of a memory after a write: the one written, or one it held. -/
theorem Memory.mem_write {m : Memory} {a : Nat} {w : MicroWord} {c : Nat × MicroWord}
    (h : c ∈ Memory.write m a w) : c = (a, w) ∨ c ∈ m := by
  induction m with
  | nil => simpa [Memory.write] using h
  | cons d rest ih =>
    obtain ⟨b, v⟩ := d
    simp only [Memory.write] at h
    split at h
    · simpa using h
    · split at h <;> rw [List.mem_cons] at h
      · rcases h with h | h
        · exact .inl h
        · exact .inr (List.mem_cons_of_mem _ h)
      · rcases h with h | h
        · exact .inr (h ▸ List.mem_cons_self)
        · exact (ih h).imp_right (List.mem_cons_of_mem _)

/-- A write at an 8-bit address keeps the canonical form. -/
theorem Memory.wf_write {m : Memory} (a : Nat) (w : MicroWord) (ha : a < 256) (h : Memory.wf m = true) :
    Memory.wf (Memory.write m a w) = true := by
  induction m with
  | nil => simpa [Memory.write, Memory.wf] using ha
  | cons d rest ih =>
    obtain ⟨b, v⟩ := d
    obtain ⟨hb, hrest, hlt⟩ := Memory.wf_cons h
    simp only [Memory.write]
    split
    · rename_i hab
      refine Memory.wf_cons_of ha h ?_
      rintro c (_ | ⟨_, hc⟩)
      · exact hab
      · exact hab.trans (hlt c hc)
    · split
      · rename_i hab
        exact hab ▸ Memory.wf_cons_of hb hrest hlt
      · refine Memory.wf_cons_of hb (ih hrest) ?_
        intro c hc
        rcases Memory.mem_write hc with rfl | hc
        · simp only; omega
        · exact hlt c hc

/-- A cell of a canonical memory has an 8-bit address. -/
theorem Memory.lt_of_mem {m : Memory} (h : Memory.wf m = true) {c : Nat × MicroWord} (hc : c ∈ m) :
    c.1 < 256 := by
  induction m with
  | nil => cases hc
  | cons d rest ih =>
    obtain ⟨b, v⟩ := d
    obtain ⟨hb, hrest, -⟩ := Memory.wf_cons h
    rcases List.mem_cons.1 hc with rfl | hc
    · exact hb
    · exact ih hrest hc

/-- The ROM after power-up with the default parameters is in canonical form. -/
theorem State.reset_rom_wf : Memory.wf State.reset.rom = true := by decide

end Sys2Proof.Machine
end

