-- ==== Sys2Proof/Laws/Observation.lean ====
section
/-! SUPPORT. What the end of a run is (70_reset_and_hazards.md R443), said once: a state at which the fetch finds
nothing to do, reached by steps with no fault and no refusal, and the first such state. -/

namespace Sys2Proof.Machine

/-- A run has ended exactly where the fetch finds nothing to run and refuses nothing. -/
theorem atEnd_iff_fetch_idle (s : State) : atEnd s = true ↔ fetch s = .idle := by
  constructor
  · intro h
    simp only [atEnd, Bool.and_eq_true, decide_eq_true_eq, Bool.not_eq_true'] at h
    obtain ⟨⟨⟨hq, hb⟩, hp⟩, hw⟩ := h
    simp [fetch, fetchHost, hp, hw, hb, hq]
  · intro h
    simp only [fetch] at h
    split at h
    · rename_i hp
      split at h
      · simp only [fetchWire] at h
        split at h <;> cases h
      · rename_i hw
        split at h
        · simp only [fetchMicro] at h
          split at h
          · cases h
          · split at h
            · cases h
            · split at h <;> cases h
        · rename_i hb
          simp only [fetchHost] at h
          split at h
          · rename_i hq
            simp_all [atEnd]
          · split at h <;> cases h
    · cases h

/-- At the end of a run a step changes nothing: in particular it is no fault and no refusal. -/
theorem step_of_atEnd {s : State} (h : atEnd s = true) : step s = .next s := by
  simp [step, (atEnd_iff_fetch_idle s).1 h]

/-- Everything the end of a run is: reached by some number of steps, each of which answered a next state, and no state
before it was an end. -/
theorem endOfRun_some {n : Nat} {s t : State} (h : endOfRun n s = some t) :
    atEnd t = true ∧ ∃ k ≤ n, Host.Core.run Sys2Proof.core k s = .next t ∧
      ∀ j < k, ∃ u : State, Host.Core.run Sys2Proof.core j s = .next u ∧ atEnd u = false := by
  induction n generalizing s with
  | zero =>
    simp only [endOfRun] at h
    split at h
    · cases h
      exact ⟨‹_›, 0, Nat.le_refl 0, rfl, fun j hj => absurd hj (Nat.not_lt_zero j)⟩
    · cases h
  | succ n ih =>
    simp only [endOfRun] at h
    split at h
    · cases h
      exact ⟨‹_›, 0, Nat.zero_le _, rfl, fun j hj => absurd hj (Nat.not_lt_zero j)⟩
    · rename_i hs
      split at h
      · rename_i u hu
        obtain ⟨ht, k, hk, hrun, hall⟩ := ih h
        refine ⟨ht, k + 1, by omega, ?_, fun j hj => ?_⟩
        · simpa [Host.Core.run, core, hu] using hrun
        · cases j with
          | zero => exact ⟨s, rfl, by simpa using hs⟩
          | succ j =>
            obtain ⟨v, hv, hv'⟩ := hall j (by omega)
            exact ⟨v, by simpa [Host.Core.run, core, hu] using hv, hv'⟩
      · cases h
      · cases h

/-- The sample is seen exactly when SAMPLE_VALID = 1 and all three registers are written. -/
theorem visibleSample_some {s : State} {x : Sample} :
    s.visibleSample = some x ↔
      s.sampleValid = true ∧ s.sampleT = some x.t ∧ s.sampleP = some x.p ∧ s.sampleH = some x.h := by
  obtain ⟨t, p, h⟩ := x
  cases hv : s.sampleValid <;> cases ht : s.sampleT <;> cases hp : s.sampleP <;> cases hh : s.sampleH <;>
    simp [State.visibleSample, hv, ht, hp, hh]

/-- Every event of the trace is seen: in the bus trace or as a Sleep. -/
theorem mem_observation {s : State} {e : BusEvent} (h : e ∈ s.bus.trace) :
    e ∈ s.observation.busTrace ∨ ∃ ms ∈ s.observation.sleeps, e = .sleep ms := by
  cases e with
  | sleep ms => exact .inr ⟨ms, List.mem_filterMap.2 ⟨_, h, rfl⟩, rfl⟩
  | bind a ok => exact .inl (List.mem_filter.2 ⟨h, rfl⟩)
  | write b k => exact .inl (List.mem_filter.2 ⟨h, rfl⟩)
  | read n d => exact .inl (List.mem_filter.2 ⟨h, rfl⟩)

end Sys2Proof.Machine
end

