-- ==== Sys2Proof/Laws/Ops.lean ====
section
/-! SUPPORT. What each shared operation can do, said once: from an operation that answered a next state, the cases
it can have gone through. Proofs cite these and do not unfold the operations. -/

namespace Sys2Proof.Machine

/-! ## Reading an element -/

@[simp] theorem need_some {α : Type} (e : Element) (v : α) (k : α → Res) : need e (some v) k = k v := rfl

@[simp] theorem need_none {α : Type} (e : Element) (k : α → Res) :
    need e none k = .fault (.unwrittenRead e) := rfl

/-- A read that goes on read a written element. -/
theorem need_next {α : Type} {e : Element} {x : Option α} {k : α → Res} {t : State}
    (h : need e x k = .next t) : ∃ v, x = some v ∧ k v = .next t := by
  cases x with
  | none => cases h
  | some v => exact ⟨v, rfl, h⟩

/-- A read faults only for an unwritten element, or in what follows it. -/
theorem need_fault {α : Type} {e : Element} {x : Option α} {k : α → Res} {f : Fault}
    (h : need e x k = .fault f) : (x = none ∧ f = .unwrittenRead e) ∨ ∃ v, x = some v ∧ k v = .fault f := by
  cases x with
  | none => simp only [need_none, Host.Outcome.fault.injEq] at h; exact .inl ⟨rfl, h.symm⟩
  | some v => exact .inr ⟨v, rfl, h⟩

/-- An advance changes UPC alone, to UPC + 1. -/
theorem advance_next {s t : State} (h : advance s = .next t) :
    ∃ u, s.upc = some u ∧ t = { s with upc := some (u + 1) } := by
  obtain ⟨u, hu, hk⟩ := need_next h
  exact ⟨u, hu, (Host.Outcome.next.inj hk).symm⟩

/-- An advance from a written UPC. -/
theorem advance_of {s : State} {u : Byte} (h : s.upc = some u) :
    advance s = .next { s with upc := some (u + 1) } := by
  simp [advance, h]

/-! ## Errors and transactions -/

/-- Raising an error is the abort of the command CMD names. -/
theorem raiseError_next {i : ErrInfo} {s t : State} (h : raiseError i s = .next t) :
    ∃ c, s.cmd = some c ∧ t = abortWith i c s := by
  obtain ⟨c, hc, hk⟩ := need_next h
  exact ⟨c, hc, (Host.Outcome.next.inj hk).symm⟩

/-- Raising an error while a command is running. -/
theorem raiseError_of {i : ErrInfo} {s : State} {c : HostCmd} (h : s.cmd = some c) :
    raiseError i s = .next (abortWith i c s) := by
  simp [raiseError, h]

/-- A transaction inside a micro-operation went on with its result, or raised. -/
theorem finish_next {α : Type} {x : Tx α} {k : α → State → Res} {t : State} (h : x.finish k = .next t) :
    (∃ v s, x = .done v s ∧ k v s = .next t) ∨
      (∃ i s c, x = .raised i s ∧ s.cmd = some c ∧ t = abortWith i c s) := by
  cases x with
  | done v s => exact .inl ⟨v, s, rfl, h⟩
  | raised i s =>
    obtain ⟨c, hc, ht⟩ := raiseError_next h
    exact .inr ⟨i, s, c, rfl, hc, ht⟩
  | faulted f => cases h

/-- A transaction presented directly went on with its result, aborted the running command, or, with no command
running, recorded its error. -/
theorem runDirect_next {α : Type} {x : Tx α} {k : α → State → Res} {t : State} (h : runDirect x k = .next t) :
    (∃ v s, x = .done v s ∧ k v s = .next t) ∨
      (∃ i s c, x = .raised i s ∧ s.busy = true ∧ s.cmd = some c ∧ t = abortWith i c s) ∨
      (∃ i s, x = .raised i s ∧ s.busy = false ∧ t = { s with err := errKindOf i, errInfo := some i }) := by
  cases x with
  | done v s => exact .inl ⟨v, s, rfl, h⟩
  | faulted f => cases h
  | raised i s =>
    simp only [runDirect, surfaceError] at h
    split at h
    · rename_i hb
      obtain ⟨c, hc, ht⟩ := raiseError_next h
      exact .inr (.inl ⟨i, s, c, rfl, hb, hc, ht⟩)
    · rename_i hb
      exact .inr (.inr ⟨i, s, rfl, by simpa using hb, (Host.Outcome.next.inj h).symm⟩)

/-- A register write that is done moved both bytes and changed the bus alone. -/
theorem writeRegisterTx_done {a v : Byte} {s t : State} {u : Unit} (h : writeRegisterTx a v s = .done u t) :
    s.sessionBound = true ∧ 2 ≤ (Bus.writeXfer [a, v] s.bus).1 ∧
      t = { s with bus := (Bus.writeXfer [a, v] s.bus).2 } := by
  simp only [writeRegisterTx] at h
  split at h
  · split at h
    · cases h
    · rename_i hb hk
      exact ⟨hb, by omega, (Tx.done.inj h).2.symm⟩
  · cases h

/-- A register write that raised moved fewer than two bytes and changed the bus alone. -/
theorem writeRegisterTx_raised {a v : Byte} {s t : State} {i : ErrInfo} (h : writeRegisterTx a v s = .raised i t) :
    s.sessionBound = true ∧ (Bus.writeXfer [a, v] s.bus).1 < 2 ∧
      i = .bus .write a 2 (Bus.writeXfer [a, v] s.bus).1 ∧
      t = { s with bus := (Bus.writeXfer [a, v] s.bus).2 } := by
  simp only [writeRegisterTx] at h
  split at h
  · split at h
    · rename_i hb hk
      obtain ⟨hi, ht⟩ := Tx.raised.inj h
      exact ⟨hb, hk, hi.symm, ht.symm⟩
    · cases h
  · cases h

/-- A read that is done selected its register, moved all its bytes and changed the bus alone. -/
theorem readTx_done {kind : XferKind} {a : Byte} {n : Nat} {s t : State} {d : List Byte}
    (h : readTx kind a n s = .done d t) :
    s.sessionBound = true ∧ 1 ≤ (Bus.writeXfer [a] s.bus).1 ∧
      n ≤ d.length ∧ d = (Bus.readXfer n (Bus.writeXfer [a] s.bus).2).1 ∧
      t = { s with bus := (Bus.readXfer n (Bus.writeXfer [a] s.bus).2).2 } := by
  simp only [readTx] at h
  split at h
  · rename_i hb
    split at h
    · cases h
    · rename_i hk
      split at h
      · cases h
      · rename_i hn
        obtain ⟨hd, ht⟩ := Tx.done.inj h
        exact ⟨hb, by omega, hd ▸ by omega, hd.symm, ht.symm⟩
  · cases h

/-- A read that raised had a short select, after which no read was issued, or a short read; the bus alone changed. -/
theorem readTx_raised {kind : XferKind} {a : Byte} {n : Nat} {s t : State} {i : ErrInfo}
    (h : readTx kind a n s = .raised i t) :
    s.sessionBound = true ∧
      (((Bus.writeXfer [a] s.bus).1 < 1 ∧ i = .bus .select a 1 (Bus.writeXfer [a] s.bus).1 ∧
          t = { s with bus := (Bus.writeXfer [a] s.bus).2 }) ∨
        (1 ≤ (Bus.writeXfer [a] s.bus).1 ∧
          (Bus.readXfer n (Bus.writeXfer [a] s.bus).2).1.length < n ∧
          i = .bus kind a n (Bus.readXfer n (Bus.writeXfer [a] s.bus).2).1.length ∧
          t = { s with bus := (Bus.readXfer n (Bus.writeXfer [a] s.bus).2).2 })) := by
  simp only [readTx] at h
  split at h
  · rename_i hb
    refine ⟨hb, ?_⟩
    split at h
    · rename_i hk
      obtain ⟨hi, ht⟩ := Tx.raised.inj h
      exact .inl ⟨hk, hi.symm, ht.symm⟩
    · rename_i hk
      split at h
      · rename_i hn
        obtain ⟨hi, ht⟩ := Tx.raised.inj h
        exact .inr ⟨by omega, hn, hi.symm, ht.symm⟩
      · cases h
  · cases h

/-- A bind that is done: the adapter accepted, the session is bound. -/
theorem bindTx_done {s t : State} {u : Unit} (h : bindTx s = .done u t) :
    (Bus.bindSlave s.cfg.slaveAddr s.bus).1 = true ∧
      t = { s with bus := (Bus.bindSlave s.cfg.slaveAddr s.bus).2, sessionBound := true } := by
  simp only [bindTx] at h
  split at h
  · rename_i hb
    exact ⟨hb, (Tx.done.inj h).2.symm⟩
  · cases h

/-- A bind that raised: the adapter refused, and the bus alone changed. -/
theorem bindTx_raised {s t : State} {i : ErrInfo} (h : bindTx s = .raised i t) :
    (Bus.bindSlave s.cfg.slaveAddr s.bus).1 = false ∧
      i = .bus .bind (s.cfg.slaveAddr.setWidth 8) 0 0 ∧
      t = { s with bus := (Bus.bindSlave s.cfg.slaveAddr s.bus).2 } := by
  simp only [bindTx] at h
  split at h
  · cases h
  · rename_i hb
    obtain ⟨hi, ht⟩ := Tx.raised.inj h
    exact ⟨by simpa using hb, hi.symm, ht.symm⟩

/-- A command that needs BUSY = 0 answered, so no command was running. -/
theorem whenIdle_next {s t : State} {r : Res} (h : whenIdle s r = .next t) : s.busy = false ∧ r = .next t := by
  simp only [whenIdle] at h
  split at h
  · cases h
  · rename_i hb
    exact ⟨by simpa using hb, h⟩

/-- A read of the sample returned the value, or completed with NotReady. -/
theorem readSample_next {code : Byte} {e : Element} {x : Option F64} {s t : State}
    (h : readSample code e x s = .next t) :
    (s.sampleValid = true ∧ ∃ v, x = some v ∧
      t = { s with err := .none, hostReturns := s.hostReturns ++ [{ code := code, value := v }] }) ∨
    (s.sampleValid = false ∧ t = notReady code s) := by
  simp only [readSample] at h
  split at h
  · rename_i hv
    obtain ⟨v, hx, ht⟩ := need_next h
    exact .inl ⟨hv, v, hx, (Host.Outcome.next.inj ht).symm⟩
  · rename_i hv
    exact .inr ⟨by simpa using hv, (Host.Outcome.next.inj h).symm⟩

/-- A compensation that used TFINE used that of its own raw sample. -/
theorem needTfineOf_next {s t : State} {k : Res} (h : needTfineOf s k = .next t) :
    s.tfineGen = s.rawGen ∧ k = .next t := by
  simp only [needTfineOf] at h
  split at h
  · rename_i hg
    exact ⟨hg, h⟩
  · cases h

/-- The observer passes a next state on with its event added, and nothing else. -/
theorem observed_next {b t : State} {w : Option (Byte × Byte)} {r : Res} (h : observed b w r = .next t) :
    ∃ t', r = .next t' ∧ t = observe b w t' := by
  cases r with
  | next t' => exact ⟨t', rfl, (Host.Outcome.next.inj h).symm⟩
  | fault f => cases h
  | refused q => cases h

/-- A fault passes the observer unchanged. -/
theorem observed_fault {b : State} {w : Option (Byte × Byte)} {r : Res} {f : Fault}
    (h : observed b w r = .fault f) : r = .fault f := by
  cases r with
  | next t' => cases h
  | fault f' => exact h
  | refused q => cases h

/-! ## The bus: a transfer leaves one event and touches nothing but the bus -/

/-- The trace after a Bind. -/
theorem bindSlave_trace (a : BitVec 7) (b : Bus) :
    (Bus.bindSlave a b).2.trace = b.trace ++ [.bind a (Bus.bindSlave a b).1] := by
  unfold Bus.bindSlave Bus.log Bus.draw
  split <;> [rfl; (dsimp only; split <;> rfl)]

/-- The trace after a write transfer. -/
theorem writeXfer_trace (l : List Byte) (b : Bus) :
    (Bus.writeXfer l b).2.trace = b.trace ++ [.write l (Bus.writeXfer l b).1] := by
  unfold Bus.writeXfer Bus.log Bus.draw
  split <;> [rfl; (dsimp only; split <;> rfl)]

/-- The trace after a read transfer. -/
theorem readXfer_trace (n : Nat) (b : Bus) :
    (Bus.readXfer n b).2.trace = b.trace ++ [.read n (Bus.readXfer n b).1] := by
  unfold Bus.readXfer Bus.log Bus.draw
  split <;> [rfl; (dsimp only; split <;> rfl)]

/-- The trace after a Sleep. -/
theorem sleep_trace (ms : Nat) (b : Bus) : (Bus.sleep ms b).trace = b.trace ++ [.sleep ms] := by
  unfold Bus.sleep Bus.log
  split <;> rfl

/-- A sensor fixture's read gives as many bytes as were asked for. -/
theorem readBytes_length (n d : Nat) (x : Sensor) : (Sensor.readBytes n d x).1.length = n := by
  induction n generalizing d x with
  | zero => rfl
  | succ n ih => simp [Sensor.readBytes, ih]

end Sys2Proof.Machine
end

