-- ==== Sys2Proof/Laws/PerInstr.lean ====
section
/-! SUPPORT. Statements made per instruction, as syntax: the encoded form of each instruction is read from the
interface of its own instruction set (00_scope.md R3, 30_encoding.md). -/

namespace Sys2Proof.Laws

/-- The interface an instruction set is read from: the command port, the bus, the micro-ROM. -/
inductive Port where
  | host
  | wire
  | micro
deriving DecidableEq, Repr

/-- The interface a code is read from. -/
def portOf : Code → Port
  | .host _ => .host
  | .wire _ => .wire
  | .micro _ => .micro

/-- The instruction set an instruction belongs to (00_scope.md R3). -/
def setOf : Instr → Port
  | .reset => .host
  | .refresh => .host
  | .readT => .host
  | .readP => .host
  | .readH => .host
  | .writeRegister _ _ => .wire
  | .readRegister _ => .wire
  | .readBlock _ _ => .wire
  | .bindSession => .wire
  | .rdChipId => .wire
  | .wrSoftReset => .wire
  | .rdStatus => .wire
  | .rdCal1 => .wire
  | .rdCal2 => .wire
  | .wrCtrlHum => .wire
  | .wrCtrlMeasCfg => .wire
  | .wrConfig => .wire
  | .wrCtrlMeasForced => .wire
  | .rdData => .wire
  | .endCmd => .micro
  | .bind => .micro
  | .wr _ _ => .micro
  | .rd _ => .micro
  | .rdb _ _ _ => .micro
  | .chkid _ => .micro
  | .pinit => .micro
  | .pwait => .micro
  | .bbusy _ _ => .micro
  | .call _ => .micro
  | .ret => .micro
  | .setst _ => .micro
  | .pcal => .micro
  | .chkrsv => .micro
  | .decode => .micro
  | .compt => .micro
  | .compp => .micro
  | .comph => .micro
  | .commit => .micro

/-- Whatever the parameters, the encoded form is read from the interface of the instruction's set. -/
def EncodePort.Statement (i : Instr) : Prop := ∀ p : BcbConfig, portOf (encode p i) = setOf i

theorem EncodePort.reset : EncodePort.Statement (.reset) := fun _ => rfl
theorem EncodePort.refresh : EncodePort.Statement (.refresh) := fun _ => rfl
theorem EncodePort.readT : EncodePort.Statement (.readT) := fun _ => rfl
theorem EncodePort.readP : EncodePort.Statement (.readP) := fun _ => rfl
theorem EncodePort.readH : EncodePort.Statement (.readH) := fun _ => rfl
theorem EncodePort.writeRegister (a v : Byte) : EncodePort.Statement (.writeRegister a v) := fun _ => rfl
theorem EncodePort.readRegister (a : Byte) : EncodePort.Statement (.readRegister a) := fun _ => rfl
theorem EncodePort.readBlock (a : Byte) (n : Nat) : EncodePort.Statement (.readBlock a n) := fun _ => rfl
theorem EncodePort.bindSession : EncodePort.Statement (.bindSession) := fun _ => rfl
theorem EncodePort.rdChipId : EncodePort.Statement (.rdChipId) := fun _ => rfl
theorem EncodePort.wrSoftReset : EncodePort.Statement (.wrSoftReset) := fun _ => rfl
theorem EncodePort.rdStatus : EncodePort.Statement (.rdStatus) := fun _ => rfl
theorem EncodePort.rdCal1 : EncodePort.Statement (.rdCal1) := fun _ => rfl
theorem EncodePort.rdCal2 : EncodePort.Statement (.rdCal2) := fun _ => rfl
theorem EncodePort.wrCtrlHum : EncodePort.Statement (.wrCtrlHum) := fun _ => rfl
theorem EncodePort.wrCtrlMeasCfg : EncodePort.Statement (.wrCtrlMeasCfg) := fun _ => rfl
theorem EncodePort.wrConfig : EncodePort.Statement (.wrConfig) := fun _ => rfl
theorem EncodePort.wrCtrlMeasForced : EncodePort.Statement (.wrCtrlMeasForced) := fun _ => rfl
theorem EncodePort.rdData : EncodePort.Statement (.rdData) := fun _ => rfl
theorem EncodePort.endCmd : EncodePort.Statement (.endCmd) := fun _ => rfl
theorem EncodePort.bind : EncodePort.Statement (.bind) := fun _ => rfl
theorem EncodePort.wr (a v : Byte) : EncodePort.Statement (.wr a v) := fun _ => rfl
theorem EncodePort.rd (a : Byte) : EncodePort.Statement (.rd a) := fun _ => rfl
theorem EncodePort.rdb (a n : Byte) (buf : BufId) : EncodePort.Statement (.rdb a n buf) := fun _ => rfl
theorem EncodePort.chkid (v : Byte) : EncodePort.Statement (.chkid v) := fun _ => rfl
theorem EncodePort.pinit : EncodePort.Statement (.pinit) := fun _ => rfl
theorem EncodePort.pwait : EncodePort.Statement (.pwait) := fun _ => rfl
theorem EncodePort.bbusy (m l : Byte) : EncodePort.Statement (.bbusy m l) := fun _ => rfl
theorem EncodePort.call (l : Byte) : EncodePort.Statement (.call l) := fun _ => rfl
theorem EncodePort.ret : EncodePort.Statement (.ret) := fun _ => rfl
theorem EncodePort.setst (st : LifeState) : EncodePort.Statement (.setst st) := fun _ => rfl
theorem EncodePort.pcal : EncodePort.Statement (.pcal) := fun _ => rfl
theorem EncodePort.chkrsv : EncodePort.Statement (.chkrsv) := fun _ => rfl
theorem EncodePort.decode : EncodePort.Statement (.decode) := fun _ => rfl
theorem EncodePort.compt : EncodePort.Statement (.compt) := fun _ => rfl
theorem EncodePort.compp : EncodePort.Statement (.compp) := fun _ => rfl
theorem EncodePort.comph : EncodePort.Statement (.comph) := fun _ => rfl
theorem EncodePort.commit : EncodePort.Statement (.commit) := fun _ => rfl

end Sys2Proof.Laws
end

