-- ==== Sys2Proof/Laws/State.lean ====
section
/-! SUPPORT. The fields of the state after each named update of it: one lemma per field per update, so that no later
proof unfolds an update. -/

namespace Sys2Proof.Machine

/-! ## abort_refresh (R394) -/

@[simp] theorem abortRefresh_cfg (s : State) : (abortRefresh s).cfg = s.cfg := rfl
@[simp] theorem abortRefresh_rom (s : State) : (abortRefresh s).rom = s.rom := rfl
@[simp] theorem abortRefresh_lifeState (s : State) : (abortRefresh s).lifeState = .ready := rfl
@[simp] theorem abortRefresh_busy (s : State) : (abortRefresh s).busy = s.busy := rfl
@[simp] theorem abortRefresh_err (s : State) : (abortRefresh s).err = s.err := rfl
@[simp] theorem abortRefresh_errInfo (s : State) : (abortRefresh s).errInfo = s.errInfo := rfl
@[simp] theorem abortRefresh_sessionBound (s : State) : (abortRefresh s).sessionBound = s.sessionBound := rfl
@[simp] theorem abortRefresh_cal (s : State) : (abortRefresh s).cal = s.cal := rfl
@[simp] theorem abortRefresh_calValid (s : State) : (abortRefresh s).calValid = s.calValid := rfl
@[simp] theorem abortRefresh_buf1 (s : State) : (abortRefresh s).buf1 = s.buf1 := rfl
@[simp] theorem abortRefresh_buf2 (s : State) : (abortRefresh s).buf2 = s.buf2 := rfl
@[simp] theorem abortRefresh_bufd (s : State) : (abortRefresh s).bufd = s.bufd := rfl
@[simp] theorem abortRefresh_rdata (s : State) : (abortRefresh s).rdata = s.rdata := rfl
@[simp] theorem abortRefresh_rawP (s : State) : (abortRefresh s).rawP = s.rawP := rfl
@[simp] theorem abortRefresh_rawT (s : State) : (abortRefresh s).rawT = s.rawT := rfl
@[simp] theorem abortRefresh_rawH (s : State) : (abortRefresh s).rawH = s.rawH := rfl
@[simp] theorem abortRefresh_tfine (s : State) : (abortRefresh s).tfine = s.tfine := rfl
@[simp] theorem abortRefresh_rawGen (s : State) : (abortRefresh s).rawGen = s.rawGen := rfl
@[simp] theorem abortRefresh_tfineGen (s : State) : (abortRefresh s).tfineGen = s.tfineGen := rfl
@[simp] theorem abortRefresh_tNew (s : State) : (abortRefresh s).tNew = s.tNew := rfl
@[simp] theorem abortRefresh_pNew (s : State) : (abortRefresh s).pNew = s.pNew := rfl
@[simp] theorem abortRefresh_hNew (s : State) : (abortRefresh s).hNew = s.hNew := rfl
@[simp] theorem abortRefresh_tInt (s : State) : (abortRefresh s).tInt = s.tInt := rfl
@[simp] theorem abortRefresh_pInt (s : State) : (abortRefresh s).pInt = s.pInt := rfl
@[simp] theorem abortRefresh_hInt (s : State) : (abortRefresh s).hInt = s.hInt := rfl
@[simp] theorem abortRefresh_sampleT (s : State) : (abortRefresh s).sampleT = s.sampleT := rfl
@[simp] theorem abortRefresh_sampleP (s : State) : (abortRefresh s).sampleP = s.sampleP := rfl
@[simp] theorem abortRefresh_sampleH (s : State) : (abortRefresh s).sampleH = s.sampleH := rfl
@[simp] theorem abortRefresh_sampleValid (s : State) : (abortRefresh s).sampleValid = s.sampleValid := rfl
@[simp] theorem abortRefresh_upc (s : State) : (abortRefresh s).upc = s.upc := rfl
@[simp] theorem abortRefresh_link (s : State) : (abortRefresh s).link = s.link := rfl
@[simp] theorem abortRefresh_pollcnt (s : State) : (abortRefresh s).pollcnt = s.pollcnt := rfl
@[simp] theorem abortRefresh_cmd (s : State) : (abortRefresh s).cmd = s.cmd := rfl
@[simp] theorem abortRefresh_bus (s : State) : (abortRefresh s).bus = s.bus := rfl
@[simp] theorem abortRefresh_hostQueue (s : State) : (abortRefresh s).hostQueue = s.hostQueue := rfl
@[simp] theorem abortRefresh_hostReturns (s : State) : (abortRefresh s).hostReturns = s.hostReturns := rfl
@[simp] theorem abortRefresh_wireQueue (s : State) : (abortRefresh s).wireQueue = s.wireQueue := rfl
@[simp] theorem abortRefresh_wireResult (s : State) : (abortRefresh s).wireResult = s.wireResult := rfl
@[simp] theorem abortRefresh_observerLog (s : State) : (abortRefresh s).observerLog = s.observerLog := rfl

/-! ## abort_reset (R395) -/

@[simp] theorem abortReset_cfg (s : State) : (abortReset s).cfg = s.cfg := rfl
@[simp] theorem abortReset_rom (s : State) : (abortReset s).rom = s.rom := rfl
@[simp] theorem abortReset_lifeState (s : State) : (abortReset s).lifeState = .uninit := rfl
@[simp] theorem abortReset_busy (s : State) : (abortReset s).busy = s.busy := rfl
@[simp] theorem abortReset_err (s : State) : (abortReset s).err = s.err := rfl
@[simp] theorem abortReset_errInfo (s : State) : (abortReset s).errInfo = s.errInfo := rfl
@[simp] theorem abortReset_sessionBound (s : State) : (abortReset s).sessionBound = false := rfl
@[simp] theorem abortReset_cal (s : State) : (abortReset s).cal = s.cal := rfl
@[simp] theorem abortReset_calValid (s : State) : (abortReset s).calValid = false := rfl
@[simp] theorem abortReset_buf1 (s : State) : (abortReset s).buf1 = s.buf1 := rfl
@[simp] theorem abortReset_buf2 (s : State) : (abortReset s).buf2 = s.buf2 := rfl
@[simp] theorem abortReset_bufd (s : State) : (abortReset s).bufd = s.bufd := rfl
@[simp] theorem abortReset_rdata (s : State) : (abortReset s).rdata = s.rdata := rfl
@[simp] theorem abortReset_rawP (s : State) : (abortReset s).rawP = s.rawP := rfl
@[simp] theorem abortReset_rawT (s : State) : (abortReset s).rawT = s.rawT := rfl
@[simp] theorem abortReset_rawH (s : State) : (abortReset s).rawH = s.rawH := rfl
@[simp] theorem abortReset_tfine (s : State) : (abortReset s).tfine = s.tfine := rfl
@[simp] theorem abortReset_rawGen (s : State) : (abortReset s).rawGen = s.rawGen := rfl
@[simp] theorem abortReset_tfineGen (s : State) : (abortReset s).tfineGen = s.tfineGen := rfl
@[simp] theorem abortReset_tNew (s : State) : (abortReset s).tNew = s.tNew := rfl
@[simp] theorem abortReset_pNew (s : State) : (abortReset s).pNew = s.pNew := rfl
@[simp] theorem abortReset_hNew (s : State) : (abortReset s).hNew = s.hNew := rfl
@[simp] theorem abortReset_tInt (s : State) : (abortReset s).tInt = s.tInt := rfl
@[simp] theorem abortReset_pInt (s : State) : (abortReset s).pInt = s.pInt := rfl
@[simp] theorem abortReset_hInt (s : State) : (abortReset s).hInt = s.hInt := rfl
@[simp] theorem abortReset_sampleT (s : State) : (abortReset s).sampleT = s.sampleT := rfl
@[simp] theorem abortReset_sampleP (s : State) : (abortReset s).sampleP = s.sampleP := rfl
@[simp] theorem abortReset_sampleH (s : State) : (abortReset s).sampleH = s.sampleH := rfl
@[simp] theorem abortReset_sampleValid (s : State) : (abortReset s).sampleValid = false := rfl
@[simp] theorem abortReset_upc (s : State) : (abortReset s).upc = s.upc := rfl
@[simp] theorem abortReset_link (s : State) : (abortReset s).link = s.link := rfl
@[simp] theorem abortReset_pollcnt (s : State) : (abortReset s).pollcnt = s.pollcnt := rfl
@[simp] theorem abortReset_cmd (s : State) : (abortReset s).cmd = s.cmd := rfl
@[simp] theorem abortReset_bus (s : State) : (abortReset s).bus = s.bus := rfl
@[simp] theorem abortReset_hostQueue (s : State) : (abortReset s).hostQueue = s.hostQueue := rfl
@[simp] theorem abortReset_hostReturns (s : State) : (abortReset s).hostReturns = s.hostReturns := rfl
@[simp] theorem abortReset_wireQueue (s : State) : (abortReset s).wireQueue = s.wireQueue := rfl
@[simp] theorem abortReset_wireResult (s : State) : (abortReset s).wireResult = s.wireResult := rfl
@[simp] theorem abortReset_observerLog (s : State) : (abortReset s).observerLog = s.observerLog := rfl

/-! ## The abort of a REFRESH (R380, R394) -/

@[simp] theorem abortWith_refresh_cfg (i : ErrInfo) (s : State) : (abortWith i .refresh s).cfg = s.cfg := rfl
@[simp] theorem abortWith_refresh_rom (i : ErrInfo) (s : State) : (abortWith i .refresh s).rom = s.rom := rfl
@[simp] theorem abortWith_refresh_lifeState (i : ErrInfo) (s : State) : (abortWith i .refresh s).lifeState = .ready := rfl
@[simp] theorem abortWith_refresh_busy (i : ErrInfo) (s : State) : (abortWith i .refresh s).busy = false := rfl
@[simp] theorem abortWith_refresh_err (i : ErrInfo) (s : State) : (abortWith i .refresh s).err = errKindOf i := rfl
@[simp] theorem abortWith_refresh_errInfo (i : ErrInfo) (s : State) : (abortWith i .refresh s).errInfo = some i := rfl
@[simp] theorem abortWith_refresh_sessionBound (i : ErrInfo) (s : State) : (abortWith i .refresh s).sessionBound = s.sessionBound := rfl
@[simp] theorem abortWith_refresh_cal (i : ErrInfo) (s : State) : (abortWith i .refresh s).cal = s.cal := rfl
@[simp] theorem abortWith_refresh_calValid (i : ErrInfo) (s : State) : (abortWith i .refresh s).calValid = s.calValid := rfl
@[simp] theorem abortWith_refresh_buf1 (i : ErrInfo) (s : State) : (abortWith i .refresh s).buf1 = s.buf1 := rfl
@[simp] theorem abortWith_refresh_buf2 (i : ErrInfo) (s : State) : (abortWith i .refresh s).buf2 = s.buf2 := rfl
@[simp] theorem abortWith_refresh_bufd (i : ErrInfo) (s : State) : (abortWith i .refresh s).bufd = s.bufd := rfl
@[simp] theorem abortWith_refresh_rdata (i : ErrInfo) (s : State) : (abortWith i .refresh s).rdata = s.rdata := rfl
@[simp] theorem abortWith_refresh_rawP (i : ErrInfo) (s : State) : (abortWith i .refresh s).rawP = s.rawP := rfl
@[simp] theorem abortWith_refresh_rawT (i : ErrInfo) (s : State) : (abortWith i .refresh s).rawT = s.rawT := rfl
@[simp] theorem abortWith_refresh_rawH (i : ErrInfo) (s : State) : (abortWith i .refresh s).rawH = s.rawH := rfl
@[simp] theorem abortWith_refresh_tfine (i : ErrInfo) (s : State) : (abortWith i .refresh s).tfine = s.tfine := rfl
@[simp] theorem abortWith_refresh_rawGen (i : ErrInfo) (s : State) : (abortWith i .refresh s).rawGen = s.rawGen := rfl
@[simp] theorem abortWith_refresh_tfineGen (i : ErrInfo) (s : State) : (abortWith i .refresh s).tfineGen = s.tfineGen := rfl
@[simp] theorem abortWith_refresh_tNew (i : ErrInfo) (s : State) : (abortWith i .refresh s).tNew = s.tNew := rfl
@[simp] theorem abortWith_refresh_pNew (i : ErrInfo) (s : State) : (abortWith i .refresh s).pNew = s.pNew := rfl
@[simp] theorem abortWith_refresh_hNew (i : ErrInfo) (s : State) : (abortWith i .refresh s).hNew = s.hNew := rfl
@[simp] theorem abortWith_refresh_tInt (i : ErrInfo) (s : State) : (abortWith i .refresh s).tInt = s.tInt := rfl
@[simp] theorem abortWith_refresh_pInt (i : ErrInfo) (s : State) : (abortWith i .refresh s).pInt = s.pInt := rfl
@[simp] theorem abortWith_refresh_hInt (i : ErrInfo) (s : State) : (abortWith i .refresh s).hInt = s.hInt := rfl
@[simp] theorem abortWith_refresh_sampleT (i : ErrInfo) (s : State) : (abortWith i .refresh s).sampleT = s.sampleT := rfl
@[simp] theorem abortWith_refresh_sampleP (i : ErrInfo) (s : State) : (abortWith i .refresh s).sampleP = s.sampleP := rfl
@[simp] theorem abortWith_refresh_sampleH (i : ErrInfo) (s : State) : (abortWith i .refresh s).sampleH = s.sampleH := rfl
@[simp] theorem abortWith_refresh_sampleValid (i : ErrInfo) (s : State) : (abortWith i .refresh s).sampleValid = s.sampleValid := rfl
@[simp] theorem abortWith_refresh_upc (i : ErrInfo) (s : State) : (abortWith i .refresh s).upc = s.upc := rfl
@[simp] theorem abortWith_refresh_link (i : ErrInfo) (s : State) : (abortWith i .refresh s).link = s.link := rfl
@[simp] theorem abortWith_refresh_pollcnt (i : ErrInfo) (s : State) : (abortWith i .refresh s).pollcnt = s.pollcnt := rfl
@[simp] theorem abortWith_refresh_cmd (i : ErrInfo) (s : State) : (abortWith i .refresh s).cmd = s.cmd := rfl
@[simp] theorem abortWith_refresh_bus (i : ErrInfo) (s : State) : (abortWith i .refresh s).bus = s.bus := rfl
@[simp] theorem abortWith_refresh_hostQueue (i : ErrInfo) (s : State) : (abortWith i .refresh s).hostQueue = s.hostQueue := rfl
@[simp] theorem abortWith_refresh_hostReturns (i : ErrInfo) (s : State) : (abortWith i .refresh s).hostReturns = s.hostReturns := rfl
@[simp] theorem abortWith_refresh_wireQueue (i : ErrInfo) (s : State) : (abortWith i .refresh s).wireQueue = s.wireQueue := rfl
@[simp] theorem abortWith_refresh_wireResult (i : ErrInfo) (s : State) : (abortWith i .refresh s).wireResult = s.wireResult := rfl
@[simp] theorem abortWith_refresh_observerLog (i : ErrInfo) (s : State) : (abortWith i .refresh s).observerLog = s.observerLog := rfl

/-! ## The abort of a RESET (R380, R395) -/

@[simp] theorem abortWith_reset_cfg (i : ErrInfo) (s : State) : (abortWith i .reset s).cfg = s.cfg := rfl
@[simp] theorem abortWith_reset_rom (i : ErrInfo) (s : State) : (abortWith i .reset s).rom = s.rom := rfl
@[simp] theorem abortWith_reset_lifeState (i : ErrInfo) (s : State) : (abortWith i .reset s).lifeState = .uninit := rfl
@[simp] theorem abortWith_reset_busy (i : ErrInfo) (s : State) : (abortWith i .reset s).busy = false := rfl
@[simp] theorem abortWith_reset_err (i : ErrInfo) (s : State) : (abortWith i .reset s).err = errKindOf i := rfl
@[simp] theorem abortWith_reset_errInfo (i : ErrInfo) (s : State) : (abortWith i .reset s).errInfo = some i := rfl
@[simp] theorem abortWith_reset_sessionBound (i : ErrInfo) (s : State) : (abortWith i .reset s).sessionBound = false := rfl
@[simp] theorem abortWith_reset_cal (i : ErrInfo) (s : State) : (abortWith i .reset s).cal = s.cal := rfl
@[simp] theorem abortWith_reset_calValid (i : ErrInfo) (s : State) : (abortWith i .reset s).calValid = false := rfl
@[simp] theorem abortWith_reset_buf1 (i : ErrInfo) (s : State) : (abortWith i .reset s).buf1 = s.buf1 := rfl
@[simp] theorem abortWith_reset_buf2 (i : ErrInfo) (s : State) : (abortWith i .reset s).buf2 = s.buf2 := rfl
@[simp] theorem abortWith_reset_bufd (i : ErrInfo) (s : State) : (abortWith i .reset s).bufd = s.bufd := rfl
@[simp] theorem abortWith_reset_rdata (i : ErrInfo) (s : State) : (abortWith i .reset s).rdata = s.rdata := rfl
@[simp] theorem abortWith_reset_rawP (i : ErrInfo) (s : State) : (abortWith i .reset s).rawP = s.rawP := rfl
@[simp] theorem abortWith_reset_rawT (i : ErrInfo) (s : State) : (abortWith i .reset s).rawT = s.rawT := rfl
@[simp] theorem abortWith_reset_rawH (i : ErrInfo) (s : State) : (abortWith i .reset s).rawH = s.rawH := rfl
@[simp] theorem abortWith_reset_tfine (i : ErrInfo) (s : State) : (abortWith i .reset s).tfine = s.tfine := rfl
@[simp] theorem abortWith_reset_rawGen (i : ErrInfo) (s : State) : (abortWith i .reset s).rawGen = s.rawGen := rfl
@[simp] theorem abortWith_reset_tfineGen (i : ErrInfo) (s : State) : (abortWith i .reset s).tfineGen = s.tfineGen := rfl
@[simp] theorem abortWith_reset_tNew (i : ErrInfo) (s : State) : (abortWith i .reset s).tNew = s.tNew := rfl
@[simp] theorem abortWith_reset_pNew (i : ErrInfo) (s : State) : (abortWith i .reset s).pNew = s.pNew := rfl
@[simp] theorem abortWith_reset_hNew (i : ErrInfo) (s : State) : (abortWith i .reset s).hNew = s.hNew := rfl
@[simp] theorem abortWith_reset_tInt (i : ErrInfo) (s : State) : (abortWith i .reset s).tInt = s.tInt := rfl
@[simp] theorem abortWith_reset_pInt (i : ErrInfo) (s : State) : (abortWith i .reset s).pInt = s.pInt := rfl
@[simp] theorem abortWith_reset_hInt (i : ErrInfo) (s : State) : (abortWith i .reset s).hInt = s.hInt := rfl
@[simp] theorem abortWith_reset_sampleT (i : ErrInfo) (s : State) : (abortWith i .reset s).sampleT = s.sampleT := rfl
@[simp] theorem abortWith_reset_sampleP (i : ErrInfo) (s : State) : (abortWith i .reset s).sampleP = s.sampleP := rfl
@[simp] theorem abortWith_reset_sampleH (i : ErrInfo) (s : State) : (abortWith i .reset s).sampleH = s.sampleH := rfl
@[simp] theorem abortWith_reset_sampleValid (i : ErrInfo) (s : State) : (abortWith i .reset s).sampleValid = false := rfl
@[simp] theorem abortWith_reset_upc (i : ErrInfo) (s : State) : (abortWith i .reset s).upc = s.upc := rfl
@[simp] theorem abortWith_reset_link (i : ErrInfo) (s : State) : (abortWith i .reset s).link = s.link := rfl
@[simp] theorem abortWith_reset_pollcnt (i : ErrInfo) (s : State) : (abortWith i .reset s).pollcnt = s.pollcnt := rfl
@[simp] theorem abortWith_reset_cmd (i : ErrInfo) (s : State) : (abortWith i .reset s).cmd = s.cmd := rfl
@[simp] theorem abortWith_reset_bus (i : ErrInfo) (s : State) : (abortWith i .reset s).bus = s.bus := rfl
@[simp] theorem abortWith_reset_hostQueue (i : ErrInfo) (s : State) : (abortWith i .reset s).hostQueue = s.hostQueue := rfl
@[simp] theorem abortWith_reset_hostReturns (i : ErrInfo) (s : State) : (abortWith i .reset s).hostReturns = s.hostReturns := rfl
@[simp] theorem abortWith_reset_wireQueue (i : ErrInfo) (s : State) : (abortWith i .reset s).wireQueue = s.wireQueue := rfl
@[simp] theorem abortWith_reset_wireResult (i : ErrInfo) (s : State) : (abortWith i .reset s).wireResult = s.wireResult := rfl
@[simp] theorem abortWith_reset_observerLog (i : ErrInfo) (s : State) : (abortWith i .reset s).observerLog = s.observerLog := rfl

/-! ## NotReady (R327) -/

@[simp] theorem notReady_cfg (c : Byte) (s : State) : (notReady c s).cfg = s.cfg := rfl
@[simp] theorem notReady_rom (c : Byte) (s : State) : (notReady c s).rom = s.rom := rfl
@[simp] theorem notReady_lifeState (c : Byte) (s : State) : (notReady c s).lifeState = s.lifeState := rfl
@[simp] theorem notReady_busy (c : Byte) (s : State) : (notReady c s).busy = s.busy := rfl
@[simp] theorem notReady_err (c : Byte) (s : State) : (notReady c s).err = .notReady := rfl
@[simp] theorem notReady_errInfo (c : Byte) (s : State) : (notReady c s).errInfo = some (.notReady c) := rfl
@[simp] theorem notReady_sessionBound (c : Byte) (s : State) : (notReady c s).sessionBound = s.sessionBound := rfl
@[simp] theorem notReady_cal (c : Byte) (s : State) : (notReady c s).cal = s.cal := rfl
@[simp] theorem notReady_calValid (c : Byte) (s : State) : (notReady c s).calValid = s.calValid := rfl
@[simp] theorem notReady_buf1 (c : Byte) (s : State) : (notReady c s).buf1 = s.buf1 := rfl
@[simp] theorem notReady_buf2 (c : Byte) (s : State) : (notReady c s).buf2 = s.buf2 := rfl
@[simp] theorem notReady_bufd (c : Byte) (s : State) : (notReady c s).bufd = s.bufd := rfl
@[simp] theorem notReady_rdata (c : Byte) (s : State) : (notReady c s).rdata = s.rdata := rfl
@[simp] theorem notReady_rawP (c : Byte) (s : State) : (notReady c s).rawP = s.rawP := rfl
@[simp] theorem notReady_rawT (c : Byte) (s : State) : (notReady c s).rawT = s.rawT := rfl
@[simp] theorem notReady_rawH (c : Byte) (s : State) : (notReady c s).rawH = s.rawH := rfl
@[simp] theorem notReady_tfine (c : Byte) (s : State) : (notReady c s).tfine = s.tfine := rfl
@[simp] theorem notReady_rawGen (c : Byte) (s : State) : (notReady c s).rawGen = s.rawGen := rfl
@[simp] theorem notReady_tfineGen (c : Byte) (s : State) : (notReady c s).tfineGen = s.tfineGen := rfl
@[simp] theorem notReady_tNew (c : Byte) (s : State) : (notReady c s).tNew = s.tNew := rfl
@[simp] theorem notReady_pNew (c : Byte) (s : State) : (notReady c s).pNew = s.pNew := rfl
@[simp] theorem notReady_hNew (c : Byte) (s : State) : (notReady c s).hNew = s.hNew := rfl
@[simp] theorem notReady_tInt (c : Byte) (s : State) : (notReady c s).tInt = s.tInt := rfl
@[simp] theorem notReady_pInt (c : Byte) (s : State) : (notReady c s).pInt = s.pInt := rfl
@[simp] theorem notReady_hInt (c : Byte) (s : State) : (notReady c s).hInt = s.hInt := rfl
@[simp] theorem notReady_sampleT (c : Byte) (s : State) : (notReady c s).sampleT = s.sampleT := rfl
@[simp] theorem notReady_sampleP (c : Byte) (s : State) : (notReady c s).sampleP = s.sampleP := rfl
@[simp] theorem notReady_sampleH (c : Byte) (s : State) : (notReady c s).sampleH = s.sampleH := rfl
@[simp] theorem notReady_sampleValid (c : Byte) (s : State) : (notReady c s).sampleValid = s.sampleValid := rfl
@[simp] theorem notReady_upc (c : Byte) (s : State) : (notReady c s).upc = s.upc := rfl
@[simp] theorem notReady_link (c : Byte) (s : State) : (notReady c s).link = s.link := rfl
@[simp] theorem notReady_pollcnt (c : Byte) (s : State) : (notReady c s).pollcnt = s.pollcnt := rfl
@[simp] theorem notReady_cmd (c : Byte) (s : State) : (notReady c s).cmd = s.cmd := rfl
@[simp] theorem notReady_bus (c : Byte) (s : State) : (notReady c s).bus = s.bus := rfl
@[simp] theorem notReady_hostQueue (c : Byte) (s : State) : (notReady c s).hostQueue = s.hostQueue := rfl
@[simp] theorem notReady_hostReturns (c : Byte) (s : State) : (notReady c s).hostReturns = s.hostReturns := rfl
@[simp] theorem notReady_wireQueue (c : Byte) (s : State) : (notReady c s).wireQueue = s.wireQueue := rfl
@[simp] theorem notReady_wireResult (c : Byte) (s : State) : (notReady c s).wireResult = s.wireResult := rfl
@[simp] theorem notReady_observerLog (c : Byte) (s : State) : (notReady c s).observerLog = s.observerLog := rfl

/-! ## Acceptance of a command (R321, R322) -/

@[simp] theorem acceptCommand_cfg (c : HostCmd) (e : Byte) (s : State) : (acceptCommand c e s).cfg = s.cfg := rfl
@[simp] theorem acceptCommand_rom (c : HostCmd) (e : Byte) (s : State) : (acceptCommand c e s).rom = s.rom := rfl
@[simp] theorem acceptCommand_lifeState (c : HostCmd) (e : Byte) (s : State) : (acceptCommand c e s).lifeState = s.lifeState := rfl
@[simp] theorem acceptCommand_busy (c : HostCmd) (e : Byte) (s : State) : (acceptCommand c e s).busy = true := rfl
@[simp] theorem acceptCommand_err (c : HostCmd) (e : Byte) (s : State) : (acceptCommand c e s).err = s.err := rfl
@[simp] theorem acceptCommand_errInfo (c : HostCmd) (e : Byte) (s : State) : (acceptCommand c e s).errInfo = s.errInfo := rfl
@[simp] theorem acceptCommand_sessionBound (c : HostCmd) (e : Byte) (s : State) : (acceptCommand c e s).sessionBound = s.sessionBound := rfl
@[simp] theorem acceptCommand_cal (c : HostCmd) (e : Byte) (s : State) : (acceptCommand c e s).cal = s.cal := rfl
@[simp] theorem acceptCommand_calValid (c : HostCmd) (e : Byte) (s : State) : (acceptCommand c e s).calValid = s.calValid := rfl
@[simp] theorem acceptCommand_buf1 (c : HostCmd) (e : Byte) (s : State) : (acceptCommand c e s).buf1 = s.buf1 := rfl
@[simp] theorem acceptCommand_buf2 (c : HostCmd) (e : Byte) (s : State) : (acceptCommand c e s).buf2 = s.buf2 := rfl
@[simp] theorem acceptCommand_bufd (c : HostCmd) (e : Byte) (s : State) : (acceptCommand c e s).bufd = s.bufd := rfl
@[simp] theorem acceptCommand_rdata (c : HostCmd) (e : Byte) (s : State) : (acceptCommand c e s).rdata = s.rdata := rfl
@[simp] theorem acceptCommand_rawP (c : HostCmd) (e : Byte) (s : State) : (acceptCommand c e s).rawP = s.rawP := rfl
@[simp] theorem acceptCommand_rawT (c : HostCmd) (e : Byte) (s : State) : (acceptCommand c e s).rawT = s.rawT := rfl
@[simp] theorem acceptCommand_rawH (c : HostCmd) (e : Byte) (s : State) : (acceptCommand c e s).rawH = s.rawH := rfl
@[simp] theorem acceptCommand_tfine (c : HostCmd) (e : Byte) (s : State) : (acceptCommand c e s).tfine = s.tfine := rfl
@[simp] theorem acceptCommand_rawGen (c : HostCmd) (e : Byte) (s : State) : (acceptCommand c e s).rawGen = s.rawGen := rfl
@[simp] theorem acceptCommand_tfineGen (c : HostCmd) (e : Byte) (s : State) : (acceptCommand c e s).tfineGen = s.tfineGen := rfl
@[simp] theorem acceptCommand_tNew (c : HostCmd) (e : Byte) (s : State) : (acceptCommand c e s).tNew = s.tNew := rfl
@[simp] theorem acceptCommand_pNew (c : HostCmd) (e : Byte) (s : State) : (acceptCommand c e s).pNew = s.pNew := rfl
@[simp] theorem acceptCommand_hNew (c : HostCmd) (e : Byte) (s : State) : (acceptCommand c e s).hNew = s.hNew := rfl
@[simp] theorem acceptCommand_tInt (c : HostCmd) (e : Byte) (s : State) : (acceptCommand c e s).tInt = s.tInt := rfl
@[simp] theorem acceptCommand_pInt (c : HostCmd) (e : Byte) (s : State) : (acceptCommand c e s).pInt = s.pInt := rfl
@[simp] theorem acceptCommand_hInt (c : HostCmd) (e : Byte) (s : State) : (acceptCommand c e s).hInt = s.hInt := rfl
@[simp] theorem acceptCommand_sampleT (c : HostCmd) (e : Byte) (s : State) : (acceptCommand c e s).sampleT = s.sampleT := rfl
@[simp] theorem acceptCommand_sampleP (c : HostCmd) (e : Byte) (s : State) : (acceptCommand c e s).sampleP = s.sampleP := rfl
@[simp] theorem acceptCommand_sampleH (c : HostCmd) (e : Byte) (s : State) : (acceptCommand c e s).sampleH = s.sampleH := rfl
@[simp] theorem acceptCommand_sampleValid (c : HostCmd) (e : Byte) (s : State) : (acceptCommand c e s).sampleValid = s.sampleValid := rfl
@[simp] theorem acceptCommand_upc (c : HostCmd) (e : Byte) (s : State) : (acceptCommand c e s).upc = some e := rfl
@[simp] theorem acceptCommand_link (c : HostCmd) (e : Byte) (s : State) : (acceptCommand c e s).link = s.link := rfl
@[simp] theorem acceptCommand_pollcnt (c : HostCmd) (e : Byte) (s : State) : (acceptCommand c e s).pollcnt = s.pollcnt := rfl
@[simp] theorem acceptCommand_cmd (c : HostCmd) (e : Byte) (s : State) : (acceptCommand c e s).cmd = some c := rfl
@[simp] theorem acceptCommand_bus (c : HostCmd) (e : Byte) (s : State) : (acceptCommand c e s).bus = s.bus := rfl
@[simp] theorem acceptCommand_hostQueue (c : HostCmd) (e : Byte) (s : State) : (acceptCommand c e s).hostQueue = s.hostQueue := rfl
@[simp] theorem acceptCommand_hostReturns (c : HostCmd) (e : Byte) (s : State) : (acceptCommand c e s).hostReturns = s.hostReturns := rfl
@[simp] theorem acceptCommand_wireQueue (c : HostCmd) (e : Byte) (s : State) : (acceptCommand c e s).wireQueue = s.wireQueue := rfl
@[simp] theorem acceptCommand_wireResult (c : HostCmd) (e : Byte) (s : State) : (acceptCommand c e s).wireResult = s.wireResult := rfl
@[simp] theorem acceptCommand_observerLog (c : HostCmd) (e : Byte) (s : State) : (acceptCommand c e s).observerLog = s.observerLog := rfl

/-! ## A burst written to its buffer (R180) -/

@[simp] theorem putBurst_cfg (s : State) (b : BufId) (d : List Byte) : (s.putBurst b d).cfg = s.cfg := by
  cases b <;> rfl
@[simp] theorem putBurst_rom (s : State) (b : BufId) (d : List Byte) : (s.putBurst b d).rom = s.rom := by
  cases b <;> rfl
@[simp] theorem putBurst_lifeState (s : State) (b : BufId) (d : List Byte) : (s.putBurst b d).lifeState = s.lifeState := by
  cases b <;> rfl
@[simp] theorem putBurst_busy (s : State) (b : BufId) (d : List Byte) : (s.putBurst b d).busy = s.busy := by
  cases b <;> rfl
@[simp] theorem putBurst_err (s : State) (b : BufId) (d : List Byte) : (s.putBurst b d).err = s.err := by
  cases b <;> rfl
@[simp] theorem putBurst_errInfo (s : State) (b : BufId) (d : List Byte) : (s.putBurst b d).errInfo = s.errInfo := by
  cases b <;> rfl
@[simp] theorem putBurst_sessionBound (s : State) (b : BufId) (d : List Byte) : (s.putBurst b d).sessionBound = s.sessionBound := by
  cases b <;> rfl
@[simp] theorem putBurst_cal (s : State) (b : BufId) (d : List Byte) : (s.putBurst b d).cal = s.cal := by
  cases b <;> rfl
@[simp] theorem putBurst_calValid (s : State) (b : BufId) (d : List Byte) : (s.putBurst b d).calValid = s.calValid := by
  cases b <;> rfl
@[simp] theorem putBurst_rdata (s : State) (b : BufId) (d : List Byte) : (s.putBurst b d).rdata = s.rdata := by
  cases b <;> rfl
@[simp] theorem putBurst_rawP (s : State) (b : BufId) (d : List Byte) : (s.putBurst b d).rawP = s.rawP := by
  cases b <;> rfl
@[simp] theorem putBurst_rawT (s : State) (b : BufId) (d : List Byte) : (s.putBurst b d).rawT = s.rawT := by
  cases b <;> rfl
@[simp] theorem putBurst_rawH (s : State) (b : BufId) (d : List Byte) : (s.putBurst b d).rawH = s.rawH := by
  cases b <;> rfl
@[simp] theorem putBurst_tfine (s : State) (b : BufId) (d : List Byte) : (s.putBurst b d).tfine = s.tfine := by
  cases b <;> rfl
@[simp] theorem putBurst_rawGen (s : State) (b : BufId) (d : List Byte) : (s.putBurst b d).rawGen = s.rawGen := by
  cases b <;> rfl
@[simp] theorem putBurst_tfineGen (s : State) (b : BufId) (d : List Byte) : (s.putBurst b d).tfineGen = s.tfineGen := by
  cases b <;> rfl
@[simp] theorem putBurst_tNew (s : State) (b : BufId) (d : List Byte) : (s.putBurst b d).tNew = s.tNew := by
  cases b <;> rfl
@[simp] theorem putBurst_pNew (s : State) (b : BufId) (d : List Byte) : (s.putBurst b d).pNew = s.pNew := by
  cases b <;> rfl
@[simp] theorem putBurst_hNew (s : State) (b : BufId) (d : List Byte) : (s.putBurst b d).hNew = s.hNew := by
  cases b <;> rfl
@[simp] theorem putBurst_tInt (s : State) (b : BufId) (d : List Byte) : (s.putBurst b d).tInt = s.tInt := by
  cases b <;> rfl
@[simp] theorem putBurst_pInt (s : State) (b : BufId) (d : List Byte) : (s.putBurst b d).pInt = s.pInt := by
  cases b <;> rfl
@[simp] theorem putBurst_hInt (s : State) (b : BufId) (d : List Byte) : (s.putBurst b d).hInt = s.hInt := by
  cases b <;> rfl
@[simp] theorem putBurst_sampleT (s : State) (b : BufId) (d : List Byte) : (s.putBurst b d).sampleT = s.sampleT := by
  cases b <;> rfl
@[simp] theorem putBurst_sampleP (s : State) (b : BufId) (d : List Byte) : (s.putBurst b d).sampleP = s.sampleP := by
  cases b <;> rfl
@[simp] theorem putBurst_sampleH (s : State) (b : BufId) (d : List Byte) : (s.putBurst b d).sampleH = s.sampleH := by
  cases b <;> rfl
@[simp] theorem putBurst_sampleValid (s : State) (b : BufId) (d : List Byte) : (s.putBurst b d).sampleValid = s.sampleValid := by
  cases b <;> rfl
@[simp] theorem putBurst_upc (s : State) (b : BufId) (d : List Byte) : (s.putBurst b d).upc = s.upc := by
  cases b <;> rfl
@[simp] theorem putBurst_link (s : State) (b : BufId) (d : List Byte) : (s.putBurst b d).link = s.link := by
  cases b <;> rfl
@[simp] theorem putBurst_pollcnt (s : State) (b : BufId) (d : List Byte) : (s.putBurst b d).pollcnt = s.pollcnt := by
  cases b <;> rfl
@[simp] theorem putBurst_cmd (s : State) (b : BufId) (d : List Byte) : (s.putBurst b d).cmd = s.cmd := by
  cases b <;> rfl
@[simp] theorem putBurst_bus (s : State) (b : BufId) (d : List Byte) : (s.putBurst b d).bus = s.bus := by
  cases b <;> rfl
@[simp] theorem putBurst_hostQueue (s : State) (b : BufId) (d : List Byte) : (s.putBurst b d).hostQueue = s.hostQueue := by
  cases b <;> rfl
@[simp] theorem putBurst_hostReturns (s : State) (b : BufId) (d : List Byte) : (s.putBurst b d).hostReturns = s.hostReturns := by
  cases b <;> rfl
@[simp] theorem putBurst_wireQueue (s : State) (b : BufId) (d : List Byte) : (s.putBurst b d).wireQueue = s.wireQueue := by
  cases b <;> rfl
@[simp] theorem putBurst_wireResult (s : State) (b : BufId) (d : List Byte) : (s.putBurst b d).wireResult = s.wireResult := by
  cases b <;> rfl
@[simp] theorem putBurst_observerLog (s : State) (b : BufId) (d : List Byte) : (s.putBurst b d).observerLog = s.observerLog := by
  cases b <;> rfl
@[simp] theorem putBurst_buf1_buf1 (s : State) (d : List Byte) : (s.putBurst .buf1 d).buf1 = bufferAfter s.buf1 d := rfl
@[simp] theorem putBurst_buf1_buf2 (s : State) (d : List Byte) : (s.putBurst .buf1 d).buf2 = s.buf2 := rfl
@[simp] theorem putBurst_buf1_bufd (s : State) (d : List Byte) : (s.putBurst .buf1 d).bufd = s.bufd := rfl
@[simp] theorem putBurst_buf2_buf1 (s : State) (d : List Byte) : (s.putBurst .buf2 d).buf1 = s.buf1 := rfl
@[simp] theorem putBurst_buf2_buf2 (s : State) (d : List Byte) : (s.putBurst .buf2 d).buf2 = bufferAfter s.buf2 d := rfl
@[simp] theorem putBurst_buf2_bufd (s : State) (d : List Byte) : (s.putBurst .buf2 d).bufd = s.bufd := rfl
@[simp] theorem putBurst_bufd_buf1 (s : State) (d : List Byte) : (s.putBurst .bufd d).buf1 = s.buf1 := rfl
@[simp] theorem putBurst_bufd_buf2 (s : State) (d : List Byte) : (s.putBurst .bufd d).buf2 = s.buf2 := rfl
@[simp] theorem putBurst_bufd_bufd (s : State) (d : List Byte) : (s.putBurst .bufd d).bufd = bufferAfter s.bufd d := rfl

/-! ## The observer's event (R408): it changes the observer log alone -/

@[simp] theorem observe_cfg (b : State) (w : Option (Byte × Byte)) (t : State) : (observe b w t).cfg = t.cfg := by
  unfold observe; split <;> [rfl; (split <;> rfl)]
@[simp] theorem observe_rom (b : State) (w : Option (Byte × Byte)) (t : State) : (observe b w t).rom = t.rom := by
  unfold observe; split <;> [rfl; (split <;> rfl)]
@[simp] theorem observe_lifeState (b : State) (w : Option (Byte × Byte)) (t : State) : (observe b w t).lifeState = t.lifeState := by
  unfold observe; split <;> [rfl; (split <;> rfl)]
@[simp] theorem observe_busy (b : State) (w : Option (Byte × Byte)) (t : State) : (observe b w t).busy = t.busy := by
  unfold observe; split <;> [rfl; (split <;> rfl)]
@[simp] theorem observe_err (b : State) (w : Option (Byte × Byte)) (t : State) : (observe b w t).err = t.err := by
  unfold observe; split <;> [rfl; (split <;> rfl)]
@[simp] theorem observe_errInfo (b : State) (w : Option (Byte × Byte)) (t : State) : (observe b w t).errInfo = t.errInfo := by
  unfold observe; split <;> [rfl; (split <;> rfl)]
@[simp] theorem observe_sessionBound (b : State) (w : Option (Byte × Byte)) (t : State) : (observe b w t).sessionBound = t.sessionBound := by
  unfold observe; split <;> [rfl; (split <;> rfl)]
@[simp] theorem observe_cal (b : State) (w : Option (Byte × Byte)) (t : State) : (observe b w t).cal = t.cal := by
  unfold observe; split <;> [rfl; (split <;> rfl)]
@[simp] theorem observe_calValid (b : State) (w : Option (Byte × Byte)) (t : State) : (observe b w t).calValid = t.calValid := by
  unfold observe; split <;> [rfl; (split <;> rfl)]
@[simp] theorem observe_buf1 (b : State) (w : Option (Byte × Byte)) (t : State) : (observe b w t).buf1 = t.buf1 := by
  unfold observe; split <;> [rfl; (split <;> rfl)]
@[simp] theorem observe_buf2 (b : State) (w : Option (Byte × Byte)) (t : State) : (observe b w t).buf2 = t.buf2 := by
  unfold observe; split <;> [rfl; (split <;> rfl)]
@[simp] theorem observe_bufd (b : State) (w : Option (Byte × Byte)) (t : State) : (observe b w t).bufd = t.bufd := by
  unfold observe; split <;> [rfl; (split <;> rfl)]
@[simp] theorem observe_rdata (b : State) (w : Option (Byte × Byte)) (t : State) : (observe b w t).rdata = t.rdata := by
  unfold observe; split <;> [rfl; (split <;> rfl)]
@[simp] theorem observe_rawP (b : State) (w : Option (Byte × Byte)) (t : State) : (observe b w t).rawP = t.rawP := by
  unfold observe; split <;> [rfl; (split <;> rfl)]
@[simp] theorem observe_rawT (b : State) (w : Option (Byte × Byte)) (t : State) : (observe b w t).rawT = t.rawT := by
  unfold observe; split <;> [rfl; (split <;> rfl)]
@[simp] theorem observe_rawH (b : State) (w : Option (Byte × Byte)) (t : State) : (observe b w t).rawH = t.rawH := by
  unfold observe; split <;> [rfl; (split <;> rfl)]
@[simp] theorem observe_tfine (b : State) (w : Option (Byte × Byte)) (t : State) : (observe b w t).tfine = t.tfine := by
  unfold observe; split <;> [rfl; (split <;> rfl)]
@[simp] theorem observe_rawGen (b : State) (w : Option (Byte × Byte)) (t : State) : (observe b w t).rawGen = t.rawGen := by
  unfold observe; split <;> [rfl; (split <;> rfl)]
@[simp] theorem observe_tfineGen (b : State) (w : Option (Byte × Byte)) (t : State) : (observe b w t).tfineGen = t.tfineGen := by
  unfold observe; split <;> [rfl; (split <;> rfl)]
@[simp] theorem observe_tNew (b : State) (w : Option (Byte × Byte)) (t : State) : (observe b w t).tNew = t.tNew := by
  unfold observe; split <;> [rfl; (split <;> rfl)]
@[simp] theorem observe_pNew (b : State) (w : Option (Byte × Byte)) (t : State) : (observe b w t).pNew = t.pNew := by
  unfold observe; split <;> [rfl; (split <;> rfl)]
@[simp] theorem observe_hNew (b : State) (w : Option (Byte × Byte)) (t : State) : (observe b w t).hNew = t.hNew := by
  unfold observe; split <;> [rfl; (split <;> rfl)]
@[simp] theorem observe_tInt (b : State) (w : Option (Byte × Byte)) (t : State) : (observe b w t).tInt = t.tInt := by
  unfold observe; split <;> [rfl; (split <;> rfl)]
@[simp] theorem observe_pInt (b : State) (w : Option (Byte × Byte)) (t : State) : (observe b w t).pInt = t.pInt := by
  unfold observe; split <;> [rfl; (split <;> rfl)]
@[simp] theorem observe_hInt (b : State) (w : Option (Byte × Byte)) (t : State) : (observe b w t).hInt = t.hInt := by
  unfold observe; split <;> [rfl; (split <;> rfl)]
@[simp] theorem observe_sampleT (b : State) (w : Option (Byte × Byte)) (t : State) : (observe b w t).sampleT = t.sampleT := by
  unfold observe; split <;> [rfl; (split <;> rfl)]
@[simp] theorem observe_sampleP (b : State) (w : Option (Byte × Byte)) (t : State) : (observe b w t).sampleP = t.sampleP := by
  unfold observe; split <;> [rfl; (split <;> rfl)]
@[simp] theorem observe_sampleH (b : State) (w : Option (Byte × Byte)) (t : State) : (observe b w t).sampleH = t.sampleH := by
  unfold observe; split <;> [rfl; (split <;> rfl)]
@[simp] theorem observe_sampleValid (b : State) (w : Option (Byte × Byte)) (t : State) : (observe b w t).sampleValid = t.sampleValid := by
  unfold observe; split <;> [rfl; (split <;> rfl)]
@[simp] theorem observe_upc (b : State) (w : Option (Byte × Byte)) (t : State) : (observe b w t).upc = t.upc := by
  unfold observe; split <;> [rfl; (split <;> rfl)]
@[simp] theorem observe_link (b : State) (w : Option (Byte × Byte)) (t : State) : (observe b w t).link = t.link := by
  unfold observe; split <;> [rfl; (split <;> rfl)]
@[simp] theorem observe_pollcnt (b : State) (w : Option (Byte × Byte)) (t : State) : (observe b w t).pollcnt = t.pollcnt := by
  unfold observe; split <;> [rfl; (split <;> rfl)]
@[simp] theorem observe_cmd (b : State) (w : Option (Byte × Byte)) (t : State) : (observe b w t).cmd = t.cmd := by
  unfold observe; split <;> [rfl; (split <;> rfl)]
@[simp] theorem observe_bus (b : State) (w : Option (Byte × Byte)) (t : State) : (observe b w t).bus = t.bus := by
  unfold observe; split <;> [rfl; (split <;> rfl)]
@[simp] theorem observe_hostQueue (b : State) (w : Option (Byte × Byte)) (t : State) : (observe b w t).hostQueue = t.hostQueue := by
  unfold observe; split <;> [rfl; (split <;> rfl)]
@[simp] theorem observe_hostReturns (b : State) (w : Option (Byte × Byte)) (t : State) : (observe b w t).hostReturns = t.hostReturns := by
  unfold observe; split <;> [rfl; (split <;> rfl)]
@[simp] theorem observe_wireQueue (b : State) (w : Option (Byte × Byte)) (t : State) : (observe b w t).wireQueue = t.wireQueue := by
  unfold observe; split <;> [rfl; (split <;> rfl)]
@[simp] theorem observe_wireResult (b : State) (w : Option (Byte × Byte)) (t : State) : (observe b w t).wireResult = t.wireResult := by
  unfold observe; split <;> [rfl; (split <;> rfl)]

end Sys2Proof.Machine
end

