-- ==== Sys2Proof/Machine/Assembler.lean ====
section
/-! DEFINITION. The textual syntax of the spec (30_encoding.md R150 to R152): micro-instructions, the POLL
pseudo-instruction, host commands and the lines of a bus trace. No meaning depends on it. -/

namespace Sys2Proof.Machine

/-- One hexadecimal digit. -/
def hexDigit (n : Nat) : String :=
  ["0", "1", "2", "3", "4", "5", "6", "7", "8", "9", "A", "B", "C", "D", "E", "F"].getD n "?"

/-- A byte written in hexadecimal, as `0xE0` (R150). -/
def hexByte (b : Byte) : String := "0x" ++ hexDigit (b.toNat / 16) ++ hexDigit (b.toNat % 16)

/-- The name of a receive buffer (R150). -/
def bufText : BufId → String
  | .buf1 => "BUF1"
  | .buf2 => "BUF2"
  | .bufd => "BUFD"

/-- The name of a life-cycle state (R150). -/
def lifeText : LifeState → String
  | .uninit => "UNINIT"
  | .resetting => "RESETTING"
  | .configuring => "CONFIGURING"
  | .ready => "READY"
  | .measuring => "MEASURING"

/-- The text of an instruction: a micro-instruction (R150), a host command (R152), or the name of a wire
transaction (40_bus_transactions.md). A count is decimal, and a label is its ROM address (DESIGN CHOICE, log 27). -/
def asmText : Instr → String
  | .reset => "RESET"
  | .refresh => "REFRESH"
  | .readT => "READ_T"
  | .readP => "READ_P"
  | .readH => "READ_H"
  | .writeRegister a v => "WriteRegister(" ++ hexByte a ++ ", " ++ hexByte v ++ ")"
  | .readRegister a => "ReadRegister(" ++ hexByte a ++ ")"
  | .readBlock a n => "ReadBlock(" ++ hexByte a ++ ", " ++ n.repr ++ ")"
  | .bindSession => "Bind(SLAVE_ADDR)"
  | .rdChipId => "RD_CHIP_ID"
  | .wrSoftReset => "WR_SOFT_RESET"
  | .rdStatus => "RD_STATUS"
  | .rdCal1 => "RD_CAL1"
  | .rdCal2 => "RD_CAL2"
  | .wrCtrlHum => "WR_CTRL_HUM"
  | .wrCtrlMeasCfg => "WR_CTRL_MEAS_CFG"
  | .wrConfig => "WR_CONFIG"
  | .wrCtrlMeasForced => "WR_CTRL_MEAS_FORCED"
  | .rdData => "RD_DATA"
  | .endCmd => "END"
  | .bind => "BIND"
  | .wr a v => "WR " ++ hexByte a ++ ", " ++ hexByte v
  | .rd a => "RD " ++ hexByte a
  | .rdb a n buf => "RDB " ++ hexByte a ++ ", " ++ n.toNat.repr ++ ", " ++ bufText buf
  | .chkid v => "CHKID " ++ hexByte v
  | .pinit => "PINIT"
  | .pwait => "PWAIT"
  | .bbusy m l => "BBUSY " ++ hexByte m ++ ", " ++ hexByte l
  | .call l => "CALL " ++ hexByte l
  | .ret => "RET"
  | .setst st => "SETST " ++ lifeText st
  | .pcal => "PCAL"
  | .chkrsv => "CHKRSV"
  | .decode => "DECODE"
  | .compt => "COMPT"
  | .compp => "COMPP"
  | .comph => "COMPH"
  | .commit => "COMMIT"

/-- The pseudo-instruction `POLL a, m` placed at ROM address `base`: four micro-instructions, the label being the
PWAIT's address (R151). -/
def pollExpansion (base a m : Byte) : List Instr := [.pinit, .pwait, .rd a, .bbusy m (base + 1)]

/-- Bytes separated by commas. -/
def bytesText : List Byte → String
  | [] => ""
  | [b] => hexByte b
  | b :: rest => hexByte b ++ ", " ++ bytesText rest

/-- The accepted count of a short transfer (R152); nothing for a whole one. -/
def acceptedText (want got : Nat) : String := if got < want then " accepted " ++ got.repr else ""

/-- A line of a bus trace (R152, R353). DESIGN CHOICE, log 27 (unsafe for a claim about that line): the line of a Bind
that the adapter refused, for which the spec gives none; R353 gives only BIND. -/
def traceText : BusEvent → String
  | .bind _ ok => if ok then "BIND" else "BIND fail"
  | .write bytes k => "W [" ++ bytesText bytes ++ "]" ++ acceptedText bytes.length k
  | .read n d => "R " ++ n.repr ++ " -> [" ++ bytesText d ++ "]" ++ acceptedText n d.length
  | .sleep _ => "sleep"

end Sys2Proof.Machine
end

