-- ==== Sys2Proof/Tests/Slice0.lean ====
section
/-! SUPPORT. Tests of the model. Every expected result comes from spec/ (mostly the vectors of 95_test_vectors.md,
named in the comments) or from hand calculation; and for every obligation with hypotheses, named witnesses that its
hypotheses can be met. -/

namespace Sys2Proof.Tests
open Sys2Proof Sys2Proof.Machine

-- one test after the other: many kernel evaluations at once need more threads than a small machine gives
set_option Elab.async false

/-! ## Helpers -/

/-- Default parameters with values for the three OPEN ones, POLL_LIMIT = 3 (vector U5). -/
def cfgT : BcbConfig := { slaveAddr := 0x76, pollInterval := 1, pollLimit := some 3 }

/-- The machine after power-up under `cfgT`. -/
def idle : State := State.powerUp cfgT

/-- A running command with the session bound. -/
def running (c : HostCmd) (u : Byte) : State :=
  { idle with lifeState := .measuring, busy := true, cmd := some c, upc := some u, sessionBound := true }

/-- The idle machine with the session bound. -/
def bound : State := { idle with sessionBound := true }

/-- A state with these bus answers to come. -/
def answering (l : List BusAnswer) (s : State) : State := { s with bus := { s.bus with script := l } }

/-- A state with this word in the ROM at address `u` and UPC there. -/
def atWord (u : Byte) (w : MicroWord) (s : State) : State :=
  { s with rom := Memory.write s.rom u.toNat w, upc := some u }

/-- A transfer's answer: `k` bytes accepted, or these bytes read. -/
def ans (k : Nat) (bytes : List Byte) : BusAnswer := ⟨true, k, bytes⟩

/-- A bind's answer. -/
def bindAns (ok : Bool) : BusAnswer := ⟨ok, 0, []⟩

/-- A field of the next state. -/
def get {α : Type} (f : State → α) (r : Res) : Option α :=
  match r with
  | .next t => some (f t)
  | _ => none

/-- The fault of an outcome. -/
def faultOf (r : Res) : Option Fault :=
  match r with
  | .fault f => some f
  | _ => none

/-- The refusal of an outcome. -/
def refusalOf (r : Res) : Option Refusal :=
  match r with
  | .refused q => some q
  | _ => none

/-- The wire lines of a next state's bus trace (R152). -/
def lines (r : Res) : Option (List String) := get (fun t => t.bus.trace.map traceText) r

theorem next_of_get {r : Res} (h : (get (fun _ => ()) r).isSome = true) : ∃ t, r = .next t := by
  cases r with
  | next t => exact ⟨t, rfl⟩
  | fault f => simp [get] at h
  | refused q => simp [get] at h

/-- Fixture F0: calibration block 1 (95_test_vectors.md section 1). -/
def block1 : List Byte :=
  [0x70, 0x6B, 0x43, 0x67, 0x18, 0xFC, 0x7D, 0x8E, 0x43, 0xD6, 0xD0, 0x0B, 0x27, 0x0B, 0x8C, 0x00,
   0xF9, 0xFF, 0x8C, 0x3C, 0xF8, 0xC6, 0x70, 0x17, 0x00, 0x4B]

/-- Fixture F0: calibration block 2. -/
def block2 : List Byte := [0x6A, 0x01, 0x00, 0x13, 0x29, 0x03, 0x1E]

/-- Fixture F0: the example burst (vector K1). -/
def burst : List Byte := [0x65, 0x5A, 0xC0, 0x7E, 0xED, 0x00, 0x69, 0x78]

/-- Fixture F0: the coefficients CAL_F0. -/
def calF0 : Cal :=
  { digT1 := 27504, digT2 := 26435, digT3 := -1000, digP1 := 36477, digP2 := -10685, digP3 := 3024
    digP4 := 2855, digP5 := 140, digP6 := -7, digP7 := 15500, digP8 := -14600, digP9 := 6000
    digH1 := 75, digH2 := 362, digH3 := 0, digH4 := 313, digH5 := 50, digH6 := 30 }

/-- The coefficients of vectors H5 and I7. -/
def calH5 : Cal := { calF0 with digH2 := -362, digH4 := 100, digH5 := 0 }

/-- Bytes as a written buffer of size `n`. -/
def written (n : Nat) (d : List Byte) : List (Option Byte) :=
  d.map some ++ List.replicate (n - d.length) none

/-- The Refresh body with a sample decoded and TFINE computed for it: ready for COMPP and COMPH. -/
def sampled (p : BcbConfig) (c : Cal) (f : BitVec 32) (rp rt : BitVec 20) (rh : BitVec 16) : State :=
  { running .refresh 0x2A with
    cfg := p, cal := some c, rawP := some rp, rawT := some rt, rawH := some rh, rawGen := 1
    tfine := some f, tfineGen := 1 }

/-! ## WellFormed: each check refuses an ill-formed term -/

theorem test_readBlock_zero_illFormed : (Instr.readBlock 0xF7 0).wellFormed = false := by decide
theorem test_readBlock_33_illFormed : (Instr.readBlock 0xF7 33).wellFormed = false := by decide
theorem test_readBlock_32_wellFormed : (Instr.readBlock 0xF7 32).wellFormed = true := by decide
theorem test_rdb_zero_illFormed : (Instr.rdb 0xF7 0 .bufd).wellFormed = false := by decide
theorem test_rdb_33_illFormed : (Instr.rdb 0xF7 33 .bufd).wellFormed = false := by decide
theorem test_rdb_capacity_illFormed :
    (Instr.rdb 0x88 27 .buf1).wellFormed = false ∧ (Instr.rdb 0xE1 9 .buf2).wellFormed = false ∧
    (Instr.rdb 0xF7 9 .bufd).wellFormed = false ∧ (Instr.rdb 0x88 26 .buf1).wellFormed = true := by decide
theorem test_bbusy_target_illFormed :
    (Instr.bbusy 0x08 0x2F).wellFormed = false ∧ (Instr.bbusy 0x08 0x2E).wellFormed = true := by decide
theorem test_call_target_illFormed :
    (Instr.call 0x2F).wellFormed = false ∧ (Instr.call 0x2E).wellFormed = true := by decide

/-! ## Decoding: a word of every constructor, from the encodings of 30_encoding.md -/

-- R140: the host codes; R141: 0x00 and 0x06 are reserved (H-3, H-4)
theorem test_decode_host :
    decodeHost 0x01 = .ok .reset ∧ decodeHost 0x02 = .ok .refresh ∧ decodeHost 0x03 = .ok .readT ∧
    decodeHost 0x04 = .ok .readP ∧ decodeHost 0x05 = .ok .readH ∧
    decodeHost 0x00 = .error .reservedHostCode ∧ decodeHost 0x06 = .error .reservedHostCode ∧
    decodeHost 0xFF = .error .reservedHostCode := by decide

-- R111 to R115: frames of the generic transactions
theorem test_decode_wire_generic :
    decodeWire cfgT [.write [0x10, 0x22]] = .ok (.writeRegister 0x10 0x22) ∧
    decodeWire cfgT [.write [0x10], .read 1] = .ok (.readRegister 0x10) ∧
    decodeWire cfgT [.write [0xF7], .read 32] = .ok (.readBlock 0xF7 32) ∧
    decodeWire cfgT [.bind] = .ok .bindSession := by decide

-- R114, R113: frames that are no transaction
theorem test_decode_wire_rejects :
    decodeWire cfgT [.write [0xF7], .read 33] = .error .notATransaction ∧
    decodeWire cfgT [.write [0xF7], .read 0] = .error .notATransaction ∧
    decodeWire cfgT [.write [1, 2, 3]] = .error .notATransaction ∧
    decodeWire cfgT [.read 1] = .error .notATransaction ∧ decodeWire cfgT [] = .error .notATransaction := by decide

-- R166 to R175: the concrete transactions' bytes
theorem test_decode_wire_concrete :
    decodeWire cfgT [.write [0xD0], .read 1] = .ok .rdChipId ∧
    decodeWire cfgT [.write [0xE0, 0xB6]] = .ok .wrSoftReset ∧
    decodeWire cfgT [.write [0xF3], .read 1] = .ok .rdStatus ∧
    decodeWire cfgT [.write [0x88], .read 26] = .ok .rdCal1 ∧
    decodeWire cfgT [.write [0xE1], .read 7] = .ok .rdCal2 ∧
    decodeWire cfgT [.write [0xF2, 0x05]] = .ok .wrCtrlHum ∧
    decodeWire cfgT [.write [0xF4, 0xB4]] = .ok .wrCtrlMeasCfg ∧
    decodeWire cfgT [.write [0xF5, 0x00]] = .ok .wrConfig ∧
    decodeWire cfgT [.write [0xF4, 0xB5]] = .ok .wrCtrlMeasForced ∧
    decodeWire cfgT [.write [0xF7], .read 8] = .ok .rdData := by decide

-- R146: OP in bits 31:24, A in 23:16, B in 15:8, C in 7:0 (E1, E2, E3, E11 and the ROM listing)
theorem test_decode_micro_bus :
    decodeMicro 0b00000001000000000000000000000000 = .ok .bind ∧
    decodeMicro 0b00000010111000001011011000000000 = .ok (.wr 0xE0 0xB6) ∧
    decodeMicro 0b00000011111100110000000000000000 = .ok (.rd 0xF3) ∧
    decodeMicro 0b00000100111101110000100000000010 = .ok (.rdb 0xF7 8 .bufd) ∧
    decodeMicro 0x04881A00 = .ok (.rdb 0x88 26 .buf1) ∧ decodeMicro 0x04E10701 = .ok (.rdb 0xE1 7 .buf2) := by decide

theorem test_decode_micro_control :
    decodeMicro 0b00000000000000000000000000000000 = .ok .endCmd ∧
    decodeMicro 0b00000101000000000110000000000000 = .ok (.chkid 0x60) ∧
    decodeMicro 0b00000110000000000000000000000000 = .ok .pinit ∧
    decodeMicro 0b00000111000000000000000000000000 = .ok .pwait ∧
    decodeMicro 0b00001000000000000000000100000110 = .ok (.bbusy 0x01 0x06) ∧
    decodeMicro 0b00001001000000000000000000010101 = .ok (.call 0x15) ∧
    decodeMicro 0b00001010000000000000000000000000 = .ok .ret ∧
    decodeMicro 0b00001011000000000000010000000000 = .ok (.setst .measuring) ∧
    decodeMicro 0b00010110000000000000000000000000 = .ok .commit := by decide

theorem test_decode_micro_setst :
    decodeMicro 0x0B000000 = .ok (.setst .uninit) ∧ decodeMicro 0x0B000100 = .ok (.setst .resetting) ∧
    decodeMicro 0x0B000200 = .ok (.setst .configuring) ∧ decodeMicro 0x0B000300 = .ok (.setst .ready) := by decide

theorem test_decode_micro_datapath :
    decodeMicro 0b00010000000000000000000000000000 = .ok .pcal ∧
    decodeMicro 0b00010001000000000000000000000000 = .ok .chkrsv ∧
    decodeMicro 0b00010010000000000000000000000000 = .ok .decode ∧
    decodeMicro 0b00010011000000000000000000000000 = .ok .compt ∧
    decodeMicro 0b00010100000000000000000000000000 = .ok .compp ∧
    decodeMicro 0b00010101000000000000000000000000 = .ok .comph := by decide

-- E4 to E10, E12, and OP 0x17 (R147)
theorem test_decode_micro_illegal :
    [0x0C000000, 0x00000001, 0x04F72102, 0x04881A02, 0x04F70803, 0x0B000500, 0x09000030, 0x03D00001, 0x17000000,
      0x0F000000, 0xFF000000, 0x04F70002, 0x0800082F, 0x02E0B601, 0x05016000].map decodeMicro =
      List.replicate 15 (.error .illegalMicroOp) := by decide +kernel

-- the encoder lays the fields out as R145 says
theorem test_encode_fields :
    encode cfgT (.rdb 0xF7 8 .bufd) = .micro 0x04F70802 ∧ encode cfgT (.wr 0xE0 0xB6) = .micro 0x02E0B600 ∧
    encode cfgT (.bbusy 0x08 0x23) = .micro 0x08000823 ∧ encode cfgT (.setst .ready) = .micro 0x0B000300 ∧
    encode cfgT .wrCtrlMeasForced = .wire [.write [0xF4, 0xB5]] := by decide

-- the opcode table's rows, numbered as the table numbers them
theorem test_table_host : decodeTableWord 8 0x01 = some .reset ∧ decodeTableWord 8 0x05 = some .readH := by decide
theorem test_table_wire :
    decodeTableWord 8 0xD0 = some .rdChipId ∧ decodeTableWord 16 0xE0B6 = some .wrSoftReset ∧
    decodeTableWord 8 0xE1 = some .rdCal2 ∧ decodeTableWord 8 0x88 = some .rdCal1 ∧
    decodeTableWord 8 0xF7 = some .rdData ∧ decodeTableWord 16 0xF4B4 = some .wrCtrlMeasCfg ∧
    decodeTableWord 16 0x1022 = some (.writeRegister 0x10 0x22) ∧ decodeTableWord 0 0 = some .bindSession := by decide
theorem test_table_micro :
    decodeTableWord 32 0x0B000000 = some (.setst .uninit) ∧ decodeTableWord 32 0x16000000 = some .commit ∧
    decodeTableWord 32 0x0C000000 = none := by decide

-- withFetchWord at reset: the very next step runs the word
theorem test_withFetchWord_end :
    get (fun t => (t.busy, t.upc)) (step (State.reset.withFetchWord 32 0)) = some (false, some 0) := by
  decide +kernel
theorem test_withFetchWord_host :
    get (fun t => (t.err, t.errInfo)) (step (State.reset.withFetchWord 8 0x03)) =
      some (.notReady, some (.notReady 0x03)) := by decide +kernel

/-! ## Host commands (R320 to R327; vectors H-1 to H-7) -/

-- H-5: RESET is accepted in every STATE
theorem test_reset_accepted :
    get (fun t => (t.busy, t.cmd, t.upc)) (exec .reset { idle with lifeState := .ready }) =
      some (true, some .reset, some 0x00) := by decide +kernel
theorem test_reset_hsts : get State.hsts (exec .reset idle) = some 0x0008 := by decide +kernel
-- H-2
theorem test_refresh_notReady :
    get (fun t => (t.err, t.errInfo, t.busy, t.bus.trace)) (exec .refresh idle) =
      some (.notReady, some (.notReady 0x02), false, []) := by decide +kernel
theorem test_refresh_accepted :
    get (fun t => (t.busy, t.cmd, t.upc)) (exec .refresh { idle with lifeState := .ready }) =
      some (true, some .refresh, some 0x18) := by decide +kernel
-- H-1, P0: HSTS = 0x0050
theorem test_readT_notReady : get State.hsts (exec .readT idle) = some 0x0050 := by decide +kernel
-- H-6: the sample of P2
theorem test_readP_returns :
    get (fun t => (t.hostReturns, t.err))
      (exec .readP { idle with sampleValid := true, sampleP := some 0x40f892d4215c750e, err := .logicError }) =
      some ([⟨0x04, 0x40f892d4215c750e⟩], .none) := by decide +kernel
-- H-7
theorem test_readH_returns :
    get (fun t => t.hostReturns) (exec .readH { idle with sampleValid := true, sampleH := some 0x40432334fa80d30f }) =
      some [⟨0x05, 0x40432334fa80d30f⟩] := by decide +kernel
-- P0 to P5: status words
theorem test_hsts_words :
    State.hsts { idle with lifeState := .ready, calValid := true, sampleValid := true } = 0x0183 ∧
    State.hsts { idle with lifeState := .ready, calValid := true, sampleValid := true, err := .logicError } = 0x01B3 ∧
    State.hsts { idle with lifeState := .ready, calValid := true, sampleValid := true, err := .timeoutError } = 0x01C3 ∧
    State.hsts { idle with err := .protocolError } = 0x0020 ∧
    State.hsts { idle with err := .busTransferError } = 0x0010 := by decide

/-! ## Wire transactions (vectors B1 to B12) -/

theorem test_B1 : lines (exec (.writeRegister 0xE0 0xB6) (answering [ans 2 []] bound)) = some ["W [0xE0, 0xB6]"] := by
  decide +kernel
theorem test_B2 :
    lines (exec .wrCtrlMeasForced (answering [ans 1 []] bound)) = some ["W [0xF4, 0xB5] accepted 1"] ∧
    get (fun t => t.errInfo) (exec .wrCtrlMeasForced (answering [ans 1 []] bound)) =
      some (some (.bus .write 0xF4 2 1)) := by decide +kernel
theorem test_B3 :
    get (fun t => (t.err, t.errInfo)) (exec .wrCtrlHum (answering [ans 0 []] bound)) =
      some (.busTransferError, some (.bus .write 0xF2 2 0)) := by decide +kernel
theorem test_B4 :
    lines (exec .rdChipId (answering [ans 1 [], ans 0 [0x60]] bound)) = some ["W [0xD0]", "R 1 -> [0x60]"] ∧
    get (fun t => t.wireResult) (exec .rdChipId (answering [ans 1 [], ans 0 [0x60]] bound)) =
      some (some [0x60]) := by decide +kernel
theorem test_B5 :
    lines (exec .rdStatus (answering [ans 0 [], ans 0 [0x60]] bound)) = some ["W [0xF3] accepted 0"] ∧
    get (fun t => t.errInfo) (exec .rdStatus (answering [ans 0 [], ans 0 [0x60]] bound)) =
      some (some (.bus .select 0xF3 1 0)) := by decide +kernel
theorem test_B6 :
    lines (exec (.readRegister 0xF3) (answering [ans 1 [], ans 0 []] bound)) =
      some ["W [0xF3]", "R 1 -> [] accepted 0"] ∧
    get (fun t => t.errInfo) (exec (.readRegister 0xF3) (answering [ans 1 [], ans 0 []] bound)) =
      some (some (.bus .read 0xF3 1 0)) := by decide +kernel
theorem test_B7 :
    lines (exec .rdData (answering [ans 1 [], ans 0 burst] bound)) =
      some ["W [0xF7]", "R 8 -> [0x65, 0x5A, 0xC0, 0x7E, 0xED, 0x00, 0x69, 0x78]"] := by decide +kernel
theorem test_B8 :
    get (fun t => (t.errInfo, t.wireResult)) (exec (.readBlock 0xF7 8) (answering [ans 1 [], ans 0 (burst.take 7)] bound)) =
      some (some (.bus .burst 0xF7 8 7), none) := by decide +kernel
theorem test_B9 :
    get (fun t => t.errInfo) (exec .rdCal1 (answering [ans 1 [], ans 0 (block1.take 25)] bound)) =
      some (some (.bus .burst 0x88 26 25)) := by decide +kernel
theorem test_rdCal2 :
    get (fun t => t.wireResult) (exec .rdCal2 (answering [ans 1 [], ans 0 block2] bound)) = some (some block2) := by
  decide +kernel
theorem test_B10 :
    get (fun t => (t.errInfo, t.sessionBound)) (exec .bindSession (answering [bindAns false] idle)) =
      some (some (.bus .bind 0x76 0 0), false) := by decide +kernel
theorem test_B11 :
    get (fun t => t.sessionBound) (exec .bindSession (answering [bindAns true] idle)) = some true := by decide +kernel
theorem test_B12 : faultOf (exec (.readRegister 0xD0) idle) = some .unbound := by decide +kernel
-- R167, R172, R173: the bytes of the concrete writes
theorem test_concrete_writes :
    lines (exec .wrSoftReset (answering [ans 2 []] bound)) = some ["W [0xE0, 0xB6]"] ∧
    lines (exec .wrCtrlMeasCfg (answering [ans 2 []] bound)) = some ["W [0xF4, 0xB4]"] ∧
    lines (exec .wrConfig (answering [ans 2 []] bound)) = some ["W [0xF5, 0x00]"] := by decide +kernel
-- R89: an answer never exceeds what was sent or asked for
theorem test_answers_bounded :
    (Bus.writeXfer [1, 2] { Bus.idle with script := [ans 9 []] }).1 = 2 ∧
    (Bus.readXfer 1 { Bus.idle with script := [ans 0 burst] }).1 = [0x65] := by decide +kernel

/-! ## Bus micro-operations (vectors B13 to B16) -/

theorem test_B13 :
    get (fun t => (t.rdata, t.upc))
      (exec (.rd 0xF3) (answering [ans 1 [], ans 0 [0x08]] { running .reset 0x07 with rdata := some 0x01 })) =
      some (some 0x08, some 0x08) := by decide +kernel
theorem test_B14 :
    get (fun t => (t.rdata, t.err, t.busy, t.lifeState))
      (exec (.rd 0xF3) (answering [ans 1 [], ans 0 []] { running .reset 0x07 with rdata := some 0x01 })) =
      some (some 0x01, .busTransferError, false, .uninit) := by decide +kernel
theorem test_B15 :
    get (fun t => (t.bufd, t.errInfo, t.lifeState))
      (exec (.rdb 0xF7 8 .bufd)
        (answering [ans 1 [], ans 0 (burst.take 7)] { running .refresh 0x26 with bufd := written 8 skippedData })) =
      some (written 8 skippedData, some (.bus .burst 0xF7 8 7), .ready) := by decide +kernel
theorem test_B16 :
    get (fun t => t.buf2) (exec (.rdb 0xE1 7 .buf2) (answering [ans 1 [], ans 0 block2] (running .reset 0x0A))) =
      some [some 0x6A, some 0x01, some 0x00, some 0x13, some 0x29, some 0x03, some 0x1E, none] := by decide +kernel
theorem test_wr_short_aborts :
    get (fun t => (t.lifeState, t.sessionBound, t.upc)) (exec (.wr 0xF2 0x05) (answering [ans 1 []] (running .reset 0x0D))) =
      some (.uninit, false, some 0x0D) := by decide +kernel
theorem test_wr_advances :
    get (fun t => t.upc) (exec (.wr 0xF2 0x05) (answering [ans 2 []] (running .reset 0x0D))) = some (some 0x0E) := by
  decide +kernel
theorem test_bind_fails :
    get (fun t => (t.err, t.errInfo, t.busy))
      (exec .bind (answering [bindAns false] { running .reset 0x01 with sessionBound := false })) =
      some (.busTransferError, some (.bus .bind 0x76 0 0), false) := by decide +kernel
theorem test_bind_binds :
    get (fun t => (t.sessionBound, t.upc))
      (exec .bind (answering [bindAns true] { running .reset 0x01 with sessionBound := false })) =
      some (true, some 0x02) := by decide +kernel

/-! ## Calibration (vectors C1 to C9) -/

/-- PCAL about to run on these two blocks. -/
def pcalAt (p : BcbConfig) (b1 b2 : List Byte) : State :=
  { running .reset 0x0B with cfg := p, buf1 := written 26 b1, buf2 := written 8 b2 }

theorem test_C1 :
    get (fun t => (t.cal, t.calValid, t.upc)) (exec .pcal (pcalAt cfgT block1 block2)) =
      some (some calF0, true, some 0x0C) := by decide +kernel
theorem test_C2 : Cal.p1 .signed calF0 = -29059 ∧ Cal.p1 .unsigned calF0 = 36477 := by decide
theorem test_C3_C5_C6 :
    (nibbleH4 0xFF 0xF0).toInt = -16 ∧ (nibbleH5 0x80 0xF0).toInt = -2033 ∧ (nibbleH4 0x80 0x00).toInt = -2048 ∧
    (nibbleH5 0x7F 0x00).toInt = 2032 ∧ (nibbleH4 0x7F 0x0F).toInt = 2047 ∧ (nibbleH5 0x7F 0x0F).toInt = 2032 := by
  decide
theorem test_C4 :
    get (fun t => t.cal)
      (exec .pcal (pcalAt { cfgT with h45Layout := .word16, cal2Len := 8 } block1
        [0x6A, 0x01, 0x00, 0x39, 0x01, 0x32, 0x00, 0x1E])) = some (some calF0) := by decide +kernel
theorem test_C7 :
    get (fun t => t.cal) (exec .pcal (pcalAt cfgT (block1.set 24 0xAA) block2)) = some (some calF0) := by decide +kernel
theorem test_C8 :
    get (fun t => t.cal.map fun c => [Cal.t1 c, Cal.t2 c, Cal.p9 c, Cal.h1 c, Cal.h3 c, Cal.h4 c, Cal.h5 c, Cal.h6 c])
      (exec .pcal (pcalAt cfgT (List.replicate 26 0xFF) (List.replicate 8 0xFF))) =
      some (some [65535, -1, -1, 255, 255, -1, -1, -1]) := by decide +kernel
theorem test_C9 : faultOf (exec .pcal (pcalAt cfgT block1 [])) = some (.unwrittenRead .buf2) := by decide +kernel

/-! ## The burst (vectors K1 to K9) -/

/-- A burst about to be checked or decoded. -/
def burstAt (d : List Byte) : State := { running .refresh 0x27 with bufd := written 8 d }

theorem test_K1_chkrsv : get (fun t => t.upc) (exec .chkrsv (burstAt burst)) = some (some 0x28) := by decide +kernel
theorem test_K2_K3_K4_K8 :
    get (fun t => t.errInfo) (exec .chkrsv (burstAt (burst.set 2 0xC1))) = some (some (.reserved 1 0)) ∧
    get (fun t => t.errInfo) (exec .chkrsv (burstAt (burst.set 5 0x08))) = some (some (.reserved 0 8)) ∧
    get (fun t => t.errInfo) (exec .chkrsv (burstAt ((burst.set 2 0xCF).set 5 0x0F))) = some (some (.reserved 15 15)) ∧
    get (fun t => t.errInfo) (exec .chkrsv (burstAt [0, 0, 0x0F, 0, 0, 0, 0xFF, 0xFF])) =
      some (some (.reserved 15 0)) := by decide +kernel
theorem test_K1_decode :
    get (fun t => (t.rawP, t.rawT, t.rawH, t.rawGen)) (exec .decode (burstAt burst)) =
      some (some 415148, some 519888, some 27000, 1) := by decide +kernel
theorem test_K5_K6_decode :
    get (fun t => (t.rawP, t.rawT, t.rawH)) (exec .decode (burstAt skippedData)) =
      some (some 524288, some 524288, some 32768) ∧
    get (fun t => (t.rawP, t.rawT, t.rawH))
      (exec .decode (burstAt [0xFF, 0xFF, 0xF0, 0xFF, 0xFF, 0xF0, 0xFF, 0xFF])) =
      some (some 1048575, some 1048575, some 65535) := by decide +kernel

/-! ## Compensation in binary64 (vectors T1 to T6, P1 to P6, H1 to H7) -/

/-- COMPT on a raw count with the coefficients of F0. -/
def comptOf (p : BcbConfig) (raw : BitVec 20) : Option (Option (BitVec 32) × Option F64) :=
  get (fun t => (t.tfine, t.tNew)) (exec .compt { sampled p calF0 0 0 raw 0 with tfine := none, tfineGen := 0 })

theorem test_T1_T2 :
    comptOf cfgT 519888 = some (some 128422, some 0x4039151d460f8000) ∧
    comptOf cfgT 524288 = some (some 135479, some 0x403a75f9cb800000) := by decide +kernel
theorem test_T3_T5_rounding :
    comptOf cfgT 0 = some (some (-721300), some 0xc0619c1fc6900000) ∧
    comptOf cfgT 300000 = some (some (-227131), some 0xc0462e412f090000) ∧
    comptOf { cfgT with tfineRounding := .trunc } 0 = some (some (-721299), some 0xc0619c1fc6900000) ∧
    comptOf { cfgT with tfineRounding := .trunc } 300000 = some (some (-227130), some 0xc0462e412f090000) := by
  decide +kernel
-- R246's example: -1234.5
theorem test_rounding_example :
    tfineRound .floor 0xC0934A0000000000 = -1235 ∧ tfineRound .trunc 0xC0934A0000000000 = -1234 := by decide +kernel

/-- COMPP of a TFINE and a raw count. -/
def comppOf (p : BcbConfig) (c : Cal) (f : BitVec 32) (raw : BitVec 20) : Option (Option F64) :=
  get (fun t => t.pNew) (exec .compp (sampled p c f raw 0 0))

theorem test_P1_P2_P5 :
    comppOf cfgT calF0 128422 415148 = some (some 0x40f892d4215c750e) ∧
    comppOf cfgT calF0 135479 524288 = some (some 0x40f407c871fe9740) ∧
    comppOf cfgT calF0 (-227131) 415148 = some (some 0x40f607e4f9a33f72) := by decide +kernel
theorem test_P3_P4 :
    comppOf { cfgT with p1Signedness := .signed } calF0 128422 415148 = some (some 0xc0fd16bd10a2dbfe) ∧
    comppOf cfgT { calF0 with digP1 := 0 } 128422 415148 = some (some 0) := by decide +kernel
-- U16
theorem test_U16 :
    faultOf (exec .compp { sampled cfgT calF0 128422 415148 0 0 with rawGen := 2 }) = some .tfineMismatch ∧
    faultOf (exec .comph { sampled cfgT calF0 128422 0 0 27000 with rawGen := 2 }) = some .tfineMismatch := by
  decide +kernel

/-- COMPH of a TFINE and a raw count. -/
def comphOf (p : BcbConfig) (c : Cal) (f : BitVec 32) (raw : BitVec 16) : Option (Option F64) :=
  get (fun t => t.hNew) (exec .comph (sampled p c f 0 0 raw))

theorem test_H1_H2_H3_H4 :
    comphOf cfgT calF0 128422 27000 = some (some 0x40432334fa80d30f) ∧
    comphOf cfgT calF0 128422 0 = some (some 0) ∧
    comphOf cfgT calF0 128422 65535 = some (some 0x4059000000000000) ∧
    comphOf cfgT calF0 135479 32768 = some (some 0x40519d20979f9cf6) := by decide +kernel
theorem test_H5_minus_zero : comphOf cfgT calH5 128422 6400 = some (some 0x8000000000000000) := by decide +kernel

/-! ## Integer variants (vectors I1 to I7) -/

def cfg64 : BcbConfig := { cfgT with compVariant := .int64p }
def cfg32 : BcbConfig := { cfgT with compVariant := .int32p }

theorem test_I1_I3_compt :
    get (fun t => (t.tfine, t.tInt, t.tNew)) (exec .compt (sampled cfg64 calF0 0 0 519888 0)) =
      some (some 128422, some 2508, some (F64.div (F64.ofInt 2508) (F64.ofInt 100))) ∧
    get (fun t => (t.tfine, t.tInt)) (exec .compt (sampled cfg32 calF0 0 0 300000 0)) =
      some (some (-227131), some (-4436)) := by decide +kernel
theorem test_I1_I3_compp :
    get (fun t => t.pInt) (exec .compp (sampled cfg64 calF0 128422 415148 0 0)) = some (some 25767233) ∧
    get (fun t => t.pInt) (exec .compp (sampled cfg32 calF0 128422 415148 0 0)) = some (some 100656) ∧
    get (fun t => t.pInt) (exec .compp (sampled cfg64 calF0 (-227131) 415148 0 0)) = some (some 23101007) ∧
    get (fun t => t.pInt) (exec .compp (sampled cfg32 calF0 (-227131) 415148 0 0)) = some (some 90241) := by
  decide +kernel
theorem test_I6_compp :
    comppOf cfg64 { calF0 with digP1 := 0 } 128422 415148 = some (some 0) ∧
    comppOf cfg32 { calF0 with digP1 := 0 } 128422 415148 = some (some 0) := by decide +kernel
theorem test_I1_I4_I5_I7_comph :
    get (fun t => t.hInt) (exec .comph (sampled cfg64 calF0 128422 0 0 27000)) = some (some 39190) ∧
    get (fun t => t.hInt) (exec .comph (sampled cfg64 calF0 128422 0 0 0)) = some (some 0) ∧
    get (fun t => t.hInt) (exec .comph (sampled cfg32 calF0 128422 0 0 65535)) = some (some 102400) ∧
    comphOf cfg32 calH5 128422 6400 = some (some 0) := by decide +kernel

/-! ## Control micro-operations (vectors U1 to U15) -/

theorem test_U1 :
    get (fun t => (t.busy, t.err, t.upc)) (exec .endCmd { running .refresh 0x19 with err := .logicError }) =
      some (false, .none, some 0x19) := by decide +kernel
theorem test_U2 :
    get (fun t => (t.link, t.upc)) (exec (.call 0x20) (running .reset 0x10)) = some (some 0x11, some 0x20) := by
  decide +kernel
theorem test_U3 : get (fun t => t.upc) (exec .ret { running .reset 0x2E with link := some 0x11 }) = some (some 0x11) := by
  decide +kernel
theorem test_U4 : faultOf (exec .ret (running .reset 0x2E)) = some (.unwrittenRead .link) := by decide +kernel
theorem test_U5_U6_U8 :
    get (fun t => t.upc) (exec (.bbusy 0x08 0x23) { running .refresh 0x25 with rdata := some 0x08, pollcnt := some 1 }) =
      some (some 0x23) ∧
    get (fun t => t.upc) (exec (.bbusy 0x08 0x23) { running .refresh 0x25 with rdata := some 0x00 }) =
      some (some 0x26) ∧
    get (fun t => t.upc) (exec (.bbusy 0x01 0x06) { running .reset 0x08 with rdata := some 0x08 }) =
      some (some 0x09) := by decide +kernel
theorem test_U7_U9 :
    get (fun t => (t.err, t.errInfo))
      (exec (.bbusy 0x08 0x23) { running .refresh 0x25 with rdata := some 0x08, pollcnt := some 3 }) =
      some (.timeoutError, some (.poll 0x08 0x08)) ∧
    get (fun t => t.upc)
      (exec (.bbusy 0x08 0x23)
        { running .refresh 0x25 with
          cfg := { cfgT with pollLimit := none }, rdata := some 0xFF, pollcnt := some 1000000 }) =
      some (some 0x23) := by decide +kernel
theorem test_U10 :
    get (fun t => (t.pollcnt, t.upc)) (exec .pinit { running .refresh 0x22 with pollcnt := some 5 }) =
      some (some 0, some 0x23) := by decide +kernel
theorem test_U11 :
    get (fun t => (t.pollcnt, t.bus.trace)) (exec .pwait { running .refresh 0x23 with pollcnt := some 0 }) =
      some (some 1, [.sleep 1]) := by decide +kernel
theorem test_U12 :
    get (fun t => t.upc) (exec (.chkid 0x60) { running .reset 0x03 with rdata := some 0x60 }) = some (some 0x04) := by
  decide +kernel
-- U13, P4
theorem test_U13 :
    get (fun t => (t.errInfo, State.hsts t)) (exec (.chkid 0x60) { running .reset 0x03 with rdata := some 0x58 }) =
      some (some (.chipId 0x58), 0x0020) := by decide +kernel
theorem test_U14 :
    get (fun t => t.lifeState) (exec (.setst .measuring) { running .refresh 0x20 with lifeState := .ready }) =
      some .measuring := by decide +kernel
theorem test_U15 :
    get (fun t => (t.sampleT, t.sampleP, t.sampleH, t.sampleValid))
      (exec .commit { running .refresh 0x2C with tNew := some 1, pNew := some 2, hNew := some 3 }) =
      some (some 1, some 2, some 3, true) := by decide +kernel
-- an error in a REFRESH keeps the sample and the session (R394)
theorem test_abortRefresh_keeps_sample :
    get (fun t => (t.sampleT, t.sampleValid, t.sessionBound, t.calValid, t.lifeState))
      (exec .chkrsv
        { burstAt (burst.set 2 0xC1) with sampleT := some 7, sampleValid := true, calValid := true }) =
      some (some 7, true, true, true, .ready) := by decide +kernel

/-! ## The step -/

-- E11: the word is legal, the address it jumps to is a hole
theorem test_E11 :
    get (fun t => t.upc) (step (atWord 0x10 0x09000015 (running .reset 0x10))) = some (some 0x15) ∧
    faultOf (step (running .reset 0x15)) = some .romOverrun := by decide +kernel
theorem test_illegal_fetch : faultOf (step (atWord 0x10 0x0C000000 (running .reset 0x10))) = some .illegalMicroOp := by
  decide +kernel
-- H-3, H-4
theorem test_reserved_codes_refused :
    refusalOf (step { idle with hostQueue := [0x00] }) = some (.reservedHostCode 0x00) ∧
    refusalOf (step { idle with hostQueue := [0x06] }) = some (.reservedHostCode 0x06) := by decide +kernel
-- R137, R361
theorem test_parameters_refused :
    refusalOf (step { idle with cfg := { cfgT with h45Layout := .word16 } }) = some .parametersNotAdmitted ∧
    refusalOf (step { idle with cfg := { cfgT with primingCount := 0 } }) = some .parametersNotAdmitted := by
  decide +kernel
-- R361: under PRIMING_COUNT = 1 the END stands at 0x11, and 0x12 keeps its word of R360
theorem test_priming_once :
    [0x10, 0x11, 0x12, 0x13].map (Memory.read (Rom.image { cfgT with primingCount := 1 })) =
      [some 0x09000020, some 0x00000000, some 0x00000000, none] := by decide +kernel
-- R361: the priming calls and the END under PRIMING_COUNT = 7
theorem test_priming_words :
    Memory.read (Rom.image { cfgT with primingCount := 7 }) 0x16 = some 0x09000020 ∧
    Memory.read (Rom.image { cfgT with primingCount := 7 }) 0x17 = some 0x00000000 := by decide +kernel
-- R408: the observer's event
theorem test_observer_event :
    get (fun t => t.observerLog)
      (step (answering [ans 1 [], ans 0 [0x00]] { running .reset 0x07 with cfg := { cfgT with observer := true } })) =
      some [⟨0x07, 0x03, [.write [0xF3] 1, .read 1 [0x00]]⟩] := by decide +kernel
-- the ROM is in the canonical form and stays so
theorem test_rom_wf : Memory.wf State.reset.rom = true := by decide +kernel

/-! ## The end of a run (R443) -/

-- P0: READ_T before any reset ends with HSTS 0x0050 and ERRINFO {cmd: 0x03}, with an empty trace and nothing returned
theorem test_P0_observation :
    observedRun 1 { idle with hostQueue := [0x03] } =
      some { hsts := 0x0050, errInfo := some (.notReady 0x03), sample := none, returns := [], busTrace := []
             sleeps := [] } := by decide +kernel
-- a reserved code and a record that is not admitted are refused: those runs have no end
theorem test_refused_is_no_end :
    atEnd { idle with cfg := { cfgT with primingCount := 0 } } = false ∧
    observedRun 3 { idle with cfg := { cfgT with primingCount := 0 } } = none ∧
    observedRun 3 { idle with hostQueue := [0x00] } = none ∧ atEnd (running .reset 0x00) = false ∧
    atEnd idle = true := by decide +kernel
-- SAMPLE_* is seen only while SAMPLE_VALID = 1; the trace and the sleeps are two sequences
theorem test_observation_parts :
    State.visibleSample { idle with sampleT := some 1, sampleP := some 2, sampleH := some 3 } = none ∧
    State.visibleSample { idle with sampleT := some 1, sampleP := some 2, sampleH := some 3, sampleValid := true } =
      some ⟨1, 2, 3⟩ ∧
    (State.observation { idle with bus := { Bus.idle with trace := [.sleep 1, .write [0xF3] 1, .read 1 [0x08]] } }).busTrace =
      [.write [0xF3] 1, .read 1 [0x08]] ∧
    (State.observation { idle with bus := { Bus.idle with trace := [.sleep 1, .write [0xF3] 1, .read 1 [0x08]] } }).sleeps =
      [1] := by decide +kernel

/-! ## Text syntax (R150 to R152) -/

theorem test_assembler_text :
    asmText (.rdb 0xF7 8 .bufd) = "RDB 0xF7, 8, BUFD" ∧ asmText (.wr 0xE0 0xB6) = "WR 0xE0, 0xB6" ∧
    asmText (.setst .measuring) = "SETST MEASURING" := by decide +kernel
-- the ROM's words 0x05 to 0x08 are POLL 0xF3, 0x01 at 0x05 (R151, R360)
theorem test_poll_expansion :
    (pollExpansion 0x05 0xF3 0x01).map (Rom.wordOf cfgT) = [0x06000000, 0x07000000, 0x03F30000, 0x08000106] := by
  decide +kernel

/-! ## Binary64 (R16) -/

-- 1.0 + 2^-53 is a tie and rounds to even; 1.0 + 3 * 2^-53 rounds up; 0.1 + 0.2; 1 / 3
theorem test_f64_rounding :
    F64.add 0x3FF0000000000000 0x3CA0000000000000 = 0x3FF0000000000000 ∧
    F64.add 0x3FF0000000000001 0x3CA0000000000000 = 0x3FF0000000000002 ∧
    F64.add 0x3FB999999999999A 0x3FC999999999999A = 0x3FD3333333333334 ∧
    F64.div 0x3FF0000000000000 0x4008000000000000 = 0x3FD5555555555555 := by decide +kernel
-- signed zeros: (+0) * (-1) = -0, (-0) + (+0) = +0, x - x = +0; -0 < +0 is false
theorem test_f64_zeros :
    F64.mul 0 0xBFF0000000000000 = 0x8000000000000000 ∧ F64.add 0x8000000000000000 0 = 0 ∧
    F64.sub 0x3FF0000000000000 0x3FF0000000000000 = 0 ∧ F64.lt 0x8000000000000000 0 = false := by decide +kernel
-- the smallest subnormal halved is a tie to zero; the largest finite number doubled is infinity
theorem test_f64_edges :
    F64.div 0x0000000000000001 0x4000000000000000 = 0 ∧
    F64.add 0x7FEFFFFFFFFFFFFF 0x7FEFFFFFFFFFFFFF = 0x7FF0000000000000 := by decide +kernel

/-! ## The sensor fixture (10_state.md R49 to R57) -/

/-- A sensor with the blocks of F0; a copy and a conversion take two sleeps. -/
def sensorF0 : Sensor :=
  { calib1 := block1, calib2 := block2, id := 0x60, ctrlHum := 0, osrsH := 0, ctrlMeas := 0, config := 0
    copyLeft := 0, convLeft := 0, data := skippedData, pointer := 0, copyTime := 2, convTime := 2, results := [burst] }

-- R49: the reset column is the default, and a soft reset gives it back, `id` included
theorem test_sensor_reset_column :
    ([0xD0, 0xE0, 0xF2, 0xF3, 0xF4, 0xF5, 0xF7, 0xF8, 0xFD].map fun a => Sensor.register
      { calib1 := block1, calib2 := block2, pointer := 0, copyTime := 2, convTime := 2, results := [] } a 0) =
      [0x60, 0x00, 0x00, 0x00, 0x00, 0x00, 0x80, 0x00, 0x80] ∧
    (Sensor.writeRegister 0 { sensorF0 with id := 0x58, ctrlMeas := 0xB4 } 0xE0 0xB6).map
      (fun x => (x.id, x.ctrlMeas)) = some (0x60, 0x00) := by decide +kernel
-- R57, R113: eight bytes from 0xF7, the pointer left at 0xFF
theorem test_sensor_burst :
    (Sensor.readBytes 8 0 { sensorF0 with pointer := 0xF7 }).1 = skippedData ∧
    (Sensor.readBytes 8 0 { sensorF0 with pointer := 0xF7 }).2.pointer = 0xFF := by decide +kernel
-- R52, R53, R91: a forced conversion is busy for its sleeps, latches ctrl_hum, then delivers and returns to sleep mode
theorem test_sensor_conversion :
    ((Sensor.writeRegister 0 sensorF0 0xF2 0x05).bind fun x => Sensor.writeRegister 0 x 0xF4 0xB5).map
      (fun x => (x.osrsH, x.convLeft)) = some (5, 2) ∧
    ((Sensor.writeRegister 0 sensorF0 0xF2 0x05).bind fun x => Sensor.writeRegister 0 x 0xF4 0xB5).map
      (fun x => ((Sensor.tick 0 (Sensor.tick 0 x)).data, (Sensor.tick 0 (Sensor.tick 0 x)).ctrlMeas)) =
      some (burst, 0xB4) := by decide +kernel
-- R440: the times for x16 on all three channels (maximum 112.8 ms)
theorem test_measurement_time : maxMeasurementUs 5 5 5 = 1250 + 36800 + 37375 + 37375 := by decide

/-! ## Witnesses: for every obligation with hypotheses, states and operands that meet all of them

Each theorem gives the hypotheses of one clause, at a boundary of its range where it has one. -/

/-- Nothing runs and a fixture-free bus: the machine with one host command to come. -/
def queued (code : Byte) : State := { idle with hostQueue := [code] }

/-- A host step that completes: READ_T before any sample. -/
def hostStep : State := queued 0x03

/-- A micro-step that completes, on the spec's own ROM: PINIT at 0x05. -/
def microStep : State := running .reset 0x05

/-! ### PowerUpState: of the elements an instruction reads, one alone is unwritten -/

/-- A running command with both calibration blocks and a burst in the buffers. -/
def loaded : State :=
  { running .reset 0x0B with buf1 := written 26 block1, buf2 := written 8 (block2 ++ [0]), bufd := written 8 burst }

/-- A running REFRESH with everything the datapath reads written. -/
def ready4 : State :=
  { sampled cfgT calF0 128422 415148 519888 27000 with tNew := some 1, pNew := some 2, hNew := some 3 }

theorem witness_PowerUpState_sequencer :
    ({ running .reset 0x06 with upc := none } : State).upc = none ∧ (running .reset 0x2E).link = none ∧
    (running .reset 0x06).upc = some 0x06 ∧ (running .reset 0x06).pollcnt = none ∧ idle.cmd = none ∧
    ((0x2E : Byte) ≤ 0x2E ∧ ({ running .reset 0x08 with rdata := some 0x01 } : State).rdata = some 0x01 ∧
      (0x01 : Byte) &&& 0x01 ≠ 0 ∧ (running .reset 0x08).cfg.pollLimit = some 3 ∧
      (running .reset 0x08).pollcnt = none) ∧
    (running .reset 0x03).rdata = none ∧
    (({ running .reset 0x08 with pollcnt := some 0 } : State).pollcnt.isSome = true ∧
      ({ running .reset 0x08 with pollcnt := some 0 } : State).rdata = none) := by decide
theorem witness_PowerUpState_pcal :
    loaded.upc = some 0x0B ∧ byteAt { loaded with buf1 := loaded.buf1.set 25 none }.buf1 25 = none ∧
    (∀ i < 8, (byteAt loaded.buf2 i).isSome = true) ∧ (∀ i < 26, (byteAt loaded.buf1 i).isSome = true) ∧
    byteAt { loaded with buf2 := loaded.buf2.set 6 none }.buf2 6 = none ∧
    byteAt { loaded with buf2 := loaded.buf2.set 7 none }.buf2 7 = none ∧
    ({ cfgT with h45Layout := .word16, cal2Len := 8 } : BcbConfig).h45Layout = .word16 := by decide +kernel
theorem witness_PowerUpState_burst :
    byteAt { loaded with bufd := loaded.bufd.set 7 none }.bufd 7 = none ∧
    byteAt { loaded with bufd := loaded.bufd.set 5 none }.bufd 5 = none ∧ 7 < 8 := by decide +kernel
theorem witness_PowerUpState_compensation :
    ready4.upc = some 0x2A ∧ ready4.tfineGen = ready4.rawGen ∧ ready4.cal.isSome = true ∧
    ready4.rawT.isSome = true ∧ ready4.rawP.isSome = true ∧ ready4.rawH.isSome = true ∧
    ready4.tfine.isSome = true ∧ ready4.tNew.isSome = true ∧ ready4.pNew.isSome = true ∧
    ready4.hNew.isSome = true := by decide
-- each fault with its own element taken away from that state
theorem witness_PowerUpState_faults :
    faultOf (exec .compt { ready4 with rawT := none }) = some (.unwrittenRead .rawT) ∧
    faultOf (exec .compt { ready4 with cal := none }) = some (.unwrittenRead .cal) ∧
    faultOf (exec .compp { ready4 with tfine := none }) = some (.unwrittenRead .tfine) ∧
    faultOf (exec .compp { ready4 with rawP := none }) = some (.unwrittenRead .rawP) ∧
    faultOf (exec .compp { ready4 with cal := none }) = some (.unwrittenRead .cal) ∧
    faultOf (exec .comph { ready4 with tfine := none }) = some (.unwrittenRead .tfine) ∧
    faultOf (exec .comph { ready4 with rawH := none }) = some (.unwrittenRead .rawH) ∧
    faultOf (exec .comph { ready4 with cal := none }) = some (.unwrittenRead .cal) ∧
    faultOf (exec .commit { ready4 with tNew := none }) = some (.unwrittenRead .tNew) ∧
    faultOf (exec .commit { ready4 with pNew := none }) = some (.unwrittenRead .pNew) ∧
    faultOf (exec .commit { ready4 with hNew := none }) = some (.unwrittenRead .hNew) ∧
    faultOf (exec .decode { loaded with bufd := loaded.bufd.set 7 none }) = some (.unwrittenRead .bufd) ∧
    faultOf (exec .pcal { loaded with buf1 := loaded.buf1.set 25 none }) = some (.unwrittenRead .buf1) := by
  decide +kernel
theorem witness_PowerUpState_samples :
    idle.busy = false ∧ ({ idle with sampleValid := true } : State).sampleValid = true ∧
    ({ idle with sampleValid := true } : State).sampleT = none ∧
    ({ idle with sampleValid := true } : State).sampleP = none ∧
    ({ idle with sampleValid := true } : State).sampleH = none := by decide

theorem witness_MicroDecodeOfEncode :
    (Instr.rdb 0x88 26 .buf1).wellFormed = true ∧ encode cfgT (.rdb 0x88 26 .buf1) = .micro 0x04881A00 := by decide
theorem witness_MicroDecodeOfEncode_target :
    (Instr.bbusy 0xFF 0x2E).wellFormed = true ∧ encode cfgT (.bbusy 0xFF 0x2E) = .micro 0x0800FF2E := by decide
theorem witness_MicroEncodeOfDecode : decodeMicro 0x0900002E = .ok (.call 0x2E) := by decide
theorem witness_HostAndWireDecode_lengths : (2 ≤ 2 ∧ 2 ≤ 32) ∧ (2 ≤ 32 ∧ 32 ≤ 32) := by decide
theorem witness_HostAndWireDecode_frames :
    decodeWire cfgT [.write [0xF7], .read 32] = .ok (.readBlock 0xF7 32) := by decide
theorem witness_IllegalWords_rom : romParams cfgT ∧ (0x2E, 0x0A000000) ∈ Rom.image cfgT := by
  unfold romParams; decide +kernel

/-- An illegal word at UPC 0x10 of a running command. -/
def illegalAt : State := atWord 0x10 0x0900002F (running .reset 0x10)

theorem witness_IllegalWords_fetch :
    paramsAdmitted illegalAt.cfg = true ∧ illegalAt.wireQueue = [] ∧ illegalAt.busy = true ∧
    illegalAt.upc = some 0x10 ∧ Memory.read illegalAt.rom (0x10 : Byte).toNat = some 0x0900002F ∧
    decodeMicro 0x0900002F = .error .illegalMicroOp := by decide +kernel
theorem witness_StepRunsDecodedInstruction_micro :
    paramsAdmitted microStep.cfg = true ∧ microStep.wireQueue = [] ∧ microStep.busy = true ∧
    microStep.upc = some 0x05 ∧ Memory.read microStep.rom (0x05 : Byte).toNat = some 0x06000000 ∧
    decodeMicro 0x06000000 = .ok .pinit ∧ microStep.cfg.observer = false := by decide +kernel
theorem witness_StepRunsDecodedInstruction_host :
    paramsAdmitted hostStep.cfg = true ∧ hostStep.wireQueue = [] ∧ hostStep.busy = false ∧
    hostStep.hostQueue = 0x03 :: [] ∧ decodeHost 0x03 = .ok .readT := by decide +kernel

/-- A transaction on the direct port. -/
def wired : State := { answering [ans 2 []] bound with wireQueue := [.write [0xE0, 0xB6]] }

theorem witness_StepRunsDecodedInstruction_wire :
    paramsAdmitted wired.cfg = true ∧ wired.wireQueue ≠ [] ∧ decodeWire wired.cfg wired.wireQueue = .ok .wrSoftReset := by
  decide +kernel
theorem witness_StepRunsDecodedInstruction_idle :
    paramsAdmitted idle.cfg = true ∧ idle.wireQueue = [] ∧ idle.busy = false ∧ idle.hostQueue = [] := by decide +kernel

/-- A running command under the default parameters, at any UPC. -/
def defaultAt (u : Byte) : State := { State.reset with busy := true, cmd := some .reset, upc := some u }

theorem witness_FetchStops_hole (u : Byte) :
    (defaultAt u).cfg = BcbConfig.defaults ∧ (defaultAt u).rom = Rom.image (defaultAt u).cfg ∧
    (defaultAt u).wireQueue = [] ∧ (defaultAt u).busy = true ∧ (defaultAt u).upc = some u := ⟨rfl, rfl, rfl, rfl, rfl⟩
-- both directions at the holes' borders (R334)
theorem witness_FetchStops_borders :
    [0x13, 0x17, 0x1A, 0x1F, 0x2F, 0xFF].map (fun u => faultOf (step (defaultAt u))) =
      List.replicate 6 (some .romOverrun) ∧
    [0x00, 0x12, 0x18, 0x19, 0x20, 0x2E].map (fun u => decide (faultOf (step (defaultAt u)) = some .romOverrun)) =
      List.replicate 6 false := by decide +kernel
theorem witness_FetchStops_unwritten :
    paramsAdmitted cfgT = true ∧ ({ idle with busy := true } : State).wireQueue = [] ∧
    ({ idle with busy := true } : State).upc = none := by decide +kernel
theorem witness_FetchStops_reserved :
    (paramsAdmitted (queued 0x00).cfg = true ∧ (queued 0x00).wireQueue = [] ∧ (queued 0x00).busy = false ∧
      (queued 0x00).hostQueue = [0x00]) ∧ (0x06 : Byte) ≤ 0x06 ∧ (0x06 : Byte) ≤ 0xFF := by decide +kernel
theorem witness_FetchStops_parameters :
    ({ cfgT with h45Layout := .word16 } : BcbConfig).h45Layout = .word16 ∧ cfgT.cal2Len = 7 ∧
    ({ cfgT with primingCount := 0 } : BcbConfig).primingCount = 0 := by decide
theorem witness_RomContents :
    (({ cfgT with primingCount := 1 } : BcbConfig).primingCount.toNat = 1 ∧ 1 ≤ 1 ∧ 1 ≤ 7 ∧ 0 < 1) ∧
    (({ cfgT with primingCount := 7 } : BcbConfig).primingCount.toNat = 7 ∧ 1 ≤ 7 ∧ 7 ≤ 7 ∧ 6 < 7) := by decide
theorem witness_RunCommandsAccepted :
    idle.busy = false ∧ ({ idle with lifeState := .ready } : State).lifeState = .ready := by decide

/-- The idle machine with a committed sample. -/
def withSample : State :=
  { bound with
    lifeState := .ready, cal := some calF0, calValid := true, sampleValid := true
    sampleT := some 0x4039151d460f8000, sampleP := some 0x40f892d4215c750e, sampleH := some 0x4059000000000000 }

theorem witness_ReadCommandsReturnSample :
    withSample.busy = false ∧ withSample.sampleValid = true ∧ withSample.sampleT = some 0x4039151d460f8000 ∧
    withSample.sampleP = some 0x40f892d4215c750e ∧ withSample.sampleH = some 0x4059000000000000 := by decide
theorem witness_NotReadyChangesErrorOnly :
    idle.busy = false ∧ idle.lifeState ≠ .ready ∧ idle.sampleValid = false := by decide

/-! ### Transactions -/

theorem witness_RegisterWriteCompletes :
    writesRegister bound.cfg (.writeRegister 0x10 0x22) 0x10 0x22 ∧ (answering [ans 2 []] bound).sessionBound = true ∧
    2 ≤ (Bus.writeXfer [0x10, 0x22] (answering [ans 2 []] bound).bus).1 := by unfold writesRegister; decide +kernel
theorem witness_RegisterWriteCompletes_named :
    writesRegister cfgT .wrSoftReset 0xE0 0xB6 ∧ writesRegister cfgT .wrCtrlHum 0xF2 0x05 ∧
    writesRegister cfgT .wrCtrlMeasCfg 0xF4 0xB4 ∧ writesRegister cfgT .wrConfig 0xF5 0x00 ∧
    writesRegister cfgT .wrCtrlMeasForced 0xF4 0xB5 := by
  unfold writesRegister
  refine ⟨?_, ?_, ?_, ?_, ?_⟩ <;> decide

/-- The bound machine before a read that moves these bytes. -/
def reading (d : List Byte) : State := answering [ans 1 [], ans 0 d] bound

theorem witness_RegisterReadCompletes :
    (readsRegister cfgT (.readRegister 0x10) 0x10 ∧ readsRegister cfgT .rdChipId 0xD0 ∧
      readsRegister cfgT .rdStatus 0xF3) ∧ (reading [0x60]).sessionBound = true ∧
    1 ≤ (Bus.writeXfer [0xD0] (reading [0x60]).bus).1 ∧
    (Bus.readXfer 1 (Bus.writeXfer [0xD0] (reading [0x60]).bus).2).1 = [0x60] := by unfold readsRegister; decide +kernel
theorem witness_BlockReadCompletes :
    readsBlock cfgT .rdData 0xF7 8 ∧ readsBlock cfgT .rdCal1 0x88 26 ∧ readsBlock cfgT .rdCal2 0xE1 7 ∧
    (reading burst).sessionBound = true ∧ 1 ≤ (Bus.writeXfer [0xF7] (reading burst).bus).1 ∧
    (Bus.readXfer 8 (Bus.writeXfer [0xF7] (reading burst).bus).2).1 = burst ∧ burst.length = 8 := by
  unfold readsBlock; decide +kernel
theorem witness_BlockReadCompletes_borders :
    readsBlock cfgT (.readBlock 0x00 1) 0x00 1 ∧ readsBlock cfgT (.readBlock 0x00 32) 0x00 32 ∧
    (Bus.readXfer 32 (Bus.writeXfer [0x00] (reading (List.replicate 32 0)).bus).2).1 = List.replicate 32 0 := by
  unfold readsBlock; decide +kernel

/-- The bound machine in a running RESET with these answers to come. -/
def inReset (l : List BusAnswer) : State := answering l (running .reset 0x07)

theorem witness_ShortTransferRaises_write :
    writesRegister cfgT .wrConfig 0xF5 0x00 ∧ (inReset [ans 1 []]).sessionBound = true ∧
    (inReset [ans 1 []]).busy = true ∧ (inReset [ans 1 []]).cmd = some .reset ∧
    (Bus.writeXfer [0xF5, 0x00] (inReset [ans 1 []]).bus).1 = 1 := by unfold writesRegister; decide +kernel
theorem witness_ShortTransferRaises_select :
    readsRegister cfgT .rdStatus 0xF3 ∧ readsBlock cfgT .rdData 0xF7 8 ∧ (inReset [ans 0 []]).sessionBound = true ∧
    (inReset [ans 0 []]).cmd = some .reset ∧ (Bus.writeXfer [0xF3] (inReset [ans 0 []]).bus).1 < 1 := by
  unfold readsRegister readsBlock; decide +kernel
theorem witness_ShortTransferRaises_read :
    (inReset [ans 1 [], ans 0 []]).busy = true ∧ (inReset [ans 1 [], ans 0 []]).cmd = some .reset ∧
    1 ≤ (Bus.writeXfer [0xF3] (inReset [ans 1 [], ans 0 []]).bus).1 ∧
    (Bus.readXfer 1 (Bus.writeXfer [0xF3] (inReset [ans 1 [], ans 0 []]).bus).2).1 = [] := by decide +kernel
theorem witness_ShortTransferRaises_burst :
    readsBlock cfgT .rdData 0xF7 8 ∧ 1 ≤ (Bus.writeXfer [0xF7] (inReset [ans 1 [], ans 0 (burst.take 7)]).bus).1 ∧
    (Bus.readXfer 8 (Bus.writeXfer [0xF7] (inReset [ans 1 [], ans 0 (burst.take 7)]).bus).2).1.length < 8 := by
  unfold readsBlock; decide +kernel
theorem witness_UnboundTransactionsFault :
    idle.sessionBound = false ∧ writesRegister cfgT .wrSoftReset 0xE0 0xB6 ∧ readsBlock cfgT .rdCal1 0x88 26 ∧
    (Instr.rdb 0x88 26 .buf1).wellFormed = true := by unfold writesRegister readsBlock; decide +kernel
theorem witness_OracleAnswers : 2 ≤ ([0xE0, 0xB6] : List Byte).length ∧ burst.length ≤ 8 := by decide

/-! ### Bus micro-operations and errors -/

theorem witness_WrMicroOp :
    (inReset [ans 2 []]).sessionBound = true ∧ (inReset [ans 2 []]).upc = some 0x07 ∧
    2 ≤ (Bus.writeXfer [0xF2, 0x05] (inReset [ans 2 []]).bus).1 ∧ (0x01 : Byte) ≠ 0 := by decide +kernel
theorem witness_WrMicroOp_short :
    (inReset [ans 1 []]).sessionBound = true ∧ (inReset [ans 1 []]).cmd = some .reset ∧
    (Bus.writeXfer [0xF2, 0x05] (inReset [ans 1 []]).bus).1 < 2 := by decide +kernel
theorem witness_RdMicroOp :
    (inReset [ans 1 [], ans 0 [0x08]]).sessionBound = true ∧ (inReset [ans 1 [], ans 0 [0x08]]).upc = some 0x07 ∧
    1 ≤ (Bus.writeXfer [0xF3] (inReset [ans 1 [], ans 0 [0x08]]).bus).1 ∧
    (Bus.readXfer 1 (Bus.writeXfer [0xF3] (inReset [ans 1 [], ans 0 [0x08]]).bus).2).1 = [0x08] := by decide +kernel
theorem witness_RdMicroOp_short :
    (∃ t, exec (.rd 0xF3) (inReset [ans 0 []]) = .next t) ∧ (Bus.writeXfer [0xF3] (inReset [ans 0 []]).bus).1 < 1 :=
  ⟨next_of_get (by decide +kernel), by decide +kernel⟩
theorem witness_RdMicroOp_aborts :
    (inReset [ans 0 []]).sessionBound = true ∧ (inReset [ans 0 []]).cmd = some .reset ∧
    1 ≤ (Bus.writeXfer [0xF3] (inReset [ans 1 [], ans 0 []]).bus).1 ∧
    (Bus.readXfer 1 (Bus.writeXfer [0xF3] (inReset [ans 1 [], ans 0 []]).bus).2).1 = [] := by decide +kernel
theorem witness_RdbMicroOp_aborts :
    (Instr.rdb 0xE1 8 .buf2).wellFormed = true ∧ (Bus.writeXfer [0xE1] (inReset [ans 0 []]).bus).1 < 1 ∧
    1 ≤ (Bus.writeXfer [0xE1] (inReset [ans 1 [], ans 0 block2]).bus).1 ∧
    (Bus.readXfer (8 : Byte).toNat (Bus.writeXfer [0xE1] (inReset [ans 1 [], ans 0 block2]).bus).2).1.length <
      (8 : Byte).toNat := by decide +kernel
theorem witness_RdbMicroOp_buf1 :
    (Instr.rdb 0x88 26 .buf1).wellFormed = true ∧ (inReset [ans 1 [], ans 0 block1]).upc = some 0x07 ∧
    (inReset [ans 1 [], ans 0 block1]).sessionBound = true ∧
    1 ≤ (Bus.writeXfer [0x88] (inReset [ans 1 [], ans 0 block1]).bus).1 ∧
    (Bus.readXfer (26 : Byte).toNat (Bus.writeXfer [0x88] (inReset [ans 1 [], ans 0 block1]).bus).2).1 = block1 ∧
    block1.length = (26 : Byte).toNat := by decide +kernel
theorem witness_RdbMicroOp_buf2 :
    (Instr.rdb 0xE1 7 .buf2).wellFormed = true ∧
    1 ≤ (Bus.writeXfer [0xE1] (inReset [ans 1 [], ans 0 block2]).bus).1 ∧
    (Bus.readXfer (7 : Byte).toNat (Bus.writeXfer [0xE1] (inReset [ans 1 [], ans 0 block2]).bus).2).1 = block2 ∧
    block2.length = (7 : Byte).toNat := by decide +kernel
theorem witness_RdbMicroOp_bufd :
    (Instr.rdb 0xF7 8 .bufd).wellFormed = true ∧
    1 ≤ (Bus.writeXfer [0xF7] (inReset [ans 1 [], ans 0 burst]).bus).1 ∧
    (Bus.readXfer (8 : Byte).toNat (Bus.writeXfer [0xF7] (inReset [ans 1 [], ans 0 burst]).bus).2).1 = burst ∧
    burst.length = (8 : Byte).toNat := by decide +kernel
theorem witness_RdbMicroOp_short :
    (∃ t, exec (.rdb 0xF7 8 .bufd) (inReset [ans 1 [], ans 0 (burst.take 7)]) = .next t) ∧
    (Bus.readXfer (8 : Byte).toNat (Bus.writeXfer [0xF7] (inReset [ans 1 [], ans 0 (burst.take 7)]).bus).2).1.length < 8 :=
  ⟨next_of_get (by decide +kernel), by decide +kernel⟩
theorem witness_BindOperations_ok :
    (Bus.bindSlave cfgT.slaveAddr (inReset [bindAns true]).bus).1 = true ∧ (inReset [bindAns true]).upc = some 0x07 := by
  decide +kernel
theorem witness_BindOperations_fail :
    (Bus.bindSlave cfgT.slaveAddr (inReset [bindAns false]).bus).1 = false ∧ (inReset [bindAns false]).busy = true ∧
    (inReset [bindAns false]).cmd = some .reset := by decide +kernel
theorem witness_RaiseAbortsTheCommand :
    (running .reset 0x03).cmd = some .reset ∧ (running .refresh 0x25).cmd = some .refresh := by decide

/-! ### Control, calibration and compensation -/

theorem witness_EndAndSetstMicroOps : (running .reset 0x00).upc = some 0x00 := by decide
theorem witness_CallAndRetMicroOps :
    (0x2E : Byte) ≤ 0x2E ∧ (running .reset 0x10).upc = some 0x10 ∧
    ({ running .reset 0x2E with link := some 0x11 } : State).link = some 0x11 ∧ (running .reset 0x2E).link = none ∧
    Memory.read (Rom.image BcbConfig.defaults) 0x2E = some 0x0A000000 := by decide +kernel

/-- At BBUSY with a status byte and a poll count. -/
def polling (d : Byte) (n : Nat) : State := { running .refresh 0x25 with rdata := some d, pollcnt := some n }

theorem witness_BbusyMicroOp_clear :
    (0x2E : Byte) ≤ 0x2E ∧ (polling 0xF7 0).rdata = some 0xF7 ∧ (0xF7 : Byte) &&& 0x08 = 0 ∧
    (polling 0xF7 0).upc = some 0x25 := by decide
theorem witness_BbusyMicroOp_unlimited :
    ({ polling 0x08 0 with cfg := { cfgT with pollLimit := none } } : State).rdata = some 0x08 ∧
    (0x08 : Byte) &&& 0x08 ≠ 0 ∧ ({ cfgT with pollLimit := none } : BcbConfig).pollLimit = none := by decide
theorem witness_BbusyMicroOp_again :
    (polling 0x08 2).rdata = some 0x08 ∧ (polling 0x08 2).cfg.pollLimit = some 3 ∧
    (polling 0x08 2).pollcnt = some 2 ∧ 2 < ((3 : ℕ+) : Nat) := by decide
theorem witness_BbusyMicroOp_limit :
    (polling 0x08 3).cfg.pollLimit = some 3 ∧ (polling 0x08 3).pollcnt = some 3 ∧ ((3 : ℕ+) : Nat) ≤ 3 ∧
    (polling 0x08 3).cmd = some .refresh := by decide
theorem witness_PollCounterMicroOps :
    (polling 0 0).upc = some 0x25 ∧ (polling 0 0).pollcnt = some 0 := by decide
theorem witness_ChkidMicroOp :
    ({ running .reset 0x03 with rdata := some 0x60 } : State).rdata = some 0x60 ∧
    ({ running .reset 0x03 with rdata := some 0x58 } : State).rdata = some 0x58 ∧ (0x58 : Byte) ≠ 0x60 ∧
    (running .reset 0x03).cmd = some .reset ∧
    Memory.read (Rom.image BcbConfig.defaults) 2 = some 0x03D00000 := by decide +kernel

/-- At COMMIT with a new sample. -/
def atCommit : State :=
  { running .refresh 0x2C with
    tNew := some 0x4039151d460f8000, pNew := some 0x40f892d4215c750e, hNew := some 0x40432334fa80d30f }

theorem witness_CommitMicroOp :
    atCommit.upc = some 0x2C ∧ atCommit.tNew.isSome = true ∧ atCommit.pNew.isSome = true ∧
    atCommit.hNew.isSome = true := by decide
theorem witness_PcalMicroOp_nibble12 :
    (pcalAt cfgT block1 block2).upc = some 0x0B ∧ (pcalAt cfgT block1 block2).cfg.h45Layout = .nibble12 ∧
    (∀ i < 26, i ≠ 24 → byteAt (pcalAt cfgT block1 block2).buf1 i = some (block1.getD i 0)) ∧
    (∀ i < 7, byteAt (pcalAt cfgT block1 block2).buf2 i = some (block2.getD i 0)) := by decide +kernel
theorem witness_PcalMicroOp_word16 :
    (pcalAt { cfgT with h45Layout := .word16, cal2Len := 8 } block1 (List.replicate 8 0xFF)).cfg.h45Layout = .word16 ∧
    (∀ i < 8, byteAt (pcalAt { cfgT with h45Layout := .word16, cal2Len := 8 } block1 (List.replicate 8 0xFF)).buf2 i =
      some 0xFF) := by decide +kernel
theorem witness_BurstMicroOps :
    byteAt (burstAt burst).bufd 2 = some 0xC0 ∧ byteAt (burstAt burst).bufd 5 = some 0x00 ∧
    (burstAt burst).upc = some 0x27 ∧ (0xC0 : Byte).toNat % 16 = 0 ∧ (0x00 : Byte).toNat % 16 = 0 ∧
    (∀ i < 8, byteAt (burstAt burst).bufd i = some (burst.getD i 0)) := by decide +kernel
theorem witness_BurstMicroOps_reserved :
    byteAt (burstAt (burst.set 2 0xC1)).bufd 2 = some 0xC1 ∧ (0xC1 : Byte).toNat % 16 ≠ 0 ∧
    byteAt (burstAt (burst.set 5 0x0F)).bufd 5 = some 0x0F ∧ (0x0F : Byte).toNat % 16 ≠ 0 ∧
    (burstAt burst).cmd = some .refresh := by decide +kernel

/-- The machine of vectors T1, P1 and H1. -/
def sampleF0 : State := sampled cfgT calF0 128422 415148 519888 27000

theorem witness_compensation_inputs :
    sampleF0.upc = some 0x2A ∧ sampleF0.rawT = some 519888 ∧ sampleF0.rawP = some 415148 ∧
    sampleF0.rawH = some 27000 ∧ sampleF0.cal = some calF0 ∧ sampleF0.tfine = some 128422 ∧
    sampleF0.tfineGen = sampleF0.rawGen ∧ sampleF0.cfg.compVariant = .double := by decide

/-- The intermediate numbers of ComptDouble are whatever the equations say: its other hypotheses are those of
`witness_compensation_inputs`. -/
theorem witness_ComptDouble :
    ∃ adc t1 a var1 var2 sum : F64,
      adc = F64.ofInt (519888 : BitVec 20).toNat ∧ t1 = F64.ofInt calF0.digT1.toNat ∧
      var1 = F64.mul (F64.sub (F64.div adc (F64.ofInt 16384)) (F64.div t1 (F64.ofInt 1024)))
        (F64.ofInt calF0.digT2.toInt) ∧
      a = F64.sub (F64.div adc (F64.ofInt 131072)) (F64.div t1 (F64.ofInt 8192)) ∧
      var2 = F64.mul (F64.mul a a) (F64.ofInt calF0.digT3.toInt) ∧ sum = F64.add var1 var2 :=
  ⟨_, _, _, _, _, _, rfl, rfl, rfl, rfl, rfl, rfl⟩

/-- ComppDouble applied to `sampleF0`: its hypotheses hold together. -/
theorem witness_ComppDouble (h : Obligations.ComppDouble) : ∃ t, exec .compp sampleF0 = .next t :=
  ⟨_, h.2 sampleF0 0x2A 128422 415148 calF0 _ _ _ _ _ _ rfl rfl rfl rfl rfl rfl rfl rfl rfl rfl rfl rfl⟩

/-- ComphDouble applied to `sampleF0`: its hypotheses hold together. -/
theorem witness_ComphDouble (h : Obligations.ComphDouble) : ∃ t, exec .comph sampleF0 = .next t :=
  ⟨_, h.2.1 sampleF0 0x2A 128422 27000 calF0 _ _ _ _ _ rfl rfl rfl rfl rfl rfl rfl rfl rfl rfl rfl⟩

-- 100.0 and 0.0 pass, the next number above 100.0 is cut, the smallest negative number is raised
theorem witness_ComphDouble_clamp :
    100 < F64.value 0x4059000000000001 ∧ F64.value 0x8000000000000001 < 0 ∧ F64.value 0x4059000000000000 = 100 ∧
    F64.value 0 = 0 ∧ F64.isFinite 0x4059000000000001 = true ∧ F64.isFinite 0x8000000000000001 = true := by
  decide +kernel
theorem witness_TfineRoundings :
    F64.isFinite 0xC0934A0000000000 = true ∧ tfineRound .floor 0xC0934A0000000000 ≠ tfineRound .trunc 0xC0934A0000000000 := by
  decide +kernel
theorem witness_PressureFinite :
    |(4194303 : Int)| < 2 ^ 22 ∧ |(-4194303 : Int)| < 2 ^ 22 ∧ ({ calF0 with digP1 := 0 } : Cal).digP1 = 0 := by
  refine ⟨?_, ?_, rfl⟩ <;> norm_num
theorem witness_TfineMismatchFaults :
    ({ sampleF0 with rawGen := 2 } : State).tfineGen ≠ ({ sampleF0 with rawGen := 2 } : State).rawGen := by decide
theorem witness_IntegerVariantsComplete :
    (sampled cfg64 calF0 128422 415148 519888 27000).cfg.compVariant = .int64p ∧
    (sampled cfg32 calF0 128422 415148 519888 27000).cfg.compVariant = .int32p ∧
    CompVariant.int64p ≠ .double ∧ CompVariant.int32p ≠ .double := by decide

/-- IntegerVariantsComplete applied to F0 under INT64P and INT32P: the hypotheses of its four results hold together. -/
theorem witness_IntegerVariantsComplete_results (h : Obligations.IntegerVariantsComplete) :
    (∃ t, exec .compt (sampled cfg64 calF0 128422 415148 519888 27000) = .next t) ∧
    (∃ t, exec .compp (sampled cfg64 calF0 128422 415148 519888 27000) = .next t) ∧
    (∃ t, exec .compp (sampled cfg32 calF0 128422 415148 519888 27000) = .next t) ∧
    (∃ t, exec .comph (sampled cfg32 calF0 128422 415148 519888 27000) = .next t) := by
  obtain ⟨-, -, -, -, -, hT, hP, hP', hH⟩ := h
  exact ⟨⟨_, hT _ 0x2A 519888 calF0 _ _ _ _ _ _ rfl rfl rfl (by decide) rfl rfl rfl rfl rfl rfl⟩,
    ⟨_, hP _ 0x2A 128422 415148 calF0 _ _ _ _ _ _ _ rfl rfl rfl rfl rfl rfl rfl rfl rfl rfl rfl rfl rfl⟩,
    ⟨_, hP' _ 0x2A 128422 415148 calF0 _ _ _ _ _ _ _ _ _ _ _
      rfl rfl rfl rfl rfl rfl rfl rfl rfl rfl rfl rfl rfl rfl rfl rfl rfl⟩,
    ⟨_, hH _ 0x2A 128422 27000 calF0 _ _ _ _ _ _ _ _ rfl rfl rfl rfl rfl (by decide)
      rfl rfl rfl rfl rfl rfl rfl rfl⟩⟩

-- the primitives at their borders (R15): wrapping, floors of negative numbers, division toward zero
theorem witness_IntegerVariantsComplete_primitives :
    wrap32 2147483648 = -2147483648 ∧ uwrap32 (-1) = 4294967295 ∧ asr (-1) 1 = -1 ∧ lsr 5 1 = 2 ∧
    shl32 1 31 = -2147483648 ∧ tdiv64 (-7) 2 = -3 ∧ udiv 7 2 = 3 ∧ wrap64 9223372036854775808 = -9223372036854775808 := by
  decide
theorem witness_IntegerWordsFit : ({ calF0 with digP1 := 0 } : Cal).digP1 = 0 := by decide
theorem witness_CompensationIsPure :
    (∃ t, exec .compt sampleF0 = .next t) ∧ (∃ t, exec .compp sampleF0 = .next t) ∧
    (∃ t, exec .comph sampleF0 = .next t) ∧ sampleF0.cfg = sampleF0.cfg ∧ sampleF0.cal = sampleF0.cal :=
  ⟨next_of_get (by decide +kernel), next_of_get (by decide +kernel), next_of_get (by decide +kernel), rfl, rfl⟩

-- a tie: 1 + 2^-53 lies half way between 1 and the next number, and the result 1 has an even fraction
theorem witness_RoundsToNearestEven :
    F64.isFinite (F64.round false (1 + 1 / 2 ^ 53)) = true ∧ F64.isFinite 0x3FF0000000000001 = true ∧
    F64.value 0x3FF0000000000001 - (1 + 1 / 2 ^ 53) = (1 + 1 / 2 ^ 53) - F64.value (F64.round false (1 + 1 / 2 ^ 53)) ∧
    F64.value 0x3FF0000000000001 ≠ F64.value (F64.round false (1 + 1 / 2 ^ 53)) := by decide +kernel
-- just below half a unit past the largest finite number the result is finite, at it infinity
theorem witness_RoundsToNearestEven_overflow :
    F64.isFinite (F64.round false (2 ^ 1024 - 2 ^ 970 - 1)) = true ∧
    F64.isFinite (F64.round false (2 ^ 1024 - 2 ^ 970)) = false := by decide +kernel
theorem witness_OperationsRoundOnce :
    F64.isFinite 0x3FF0000000000000 = true ∧ F64.isZero 0x3FF0000000000000 = false ∧
    |(2 ^ 53 - 1 : Int)| < 2 ^ 53 ∧ |(-(2 ^ 53 - 1) : Int)| < 2 ^ 53 := by
  refine ⟨by decide +kernel, by decide +kernel, ?_, ?_⟩ <;> norm_num
-- a result that underflows keeps the sign of the exact one
theorem witness_OperationsRoundOnce_sign :
    (-1 / 2 ^ 1080 : ℚ) ≠ 0 ∧ F64.round false (-1 / 2 ^ 1080) = 0x8000000000000000 := by decide +kernel

/-! ### Invariants and rules of the whole machine -/

/-- A second RESET at CHKID, with a wrong chip id read. -/
def failing : State := { running .reset 0x03 with rdata := some 0x58, calValid := true, sampleValid := true }

theorem witness_step_next :
    (∃ t, step hostStep = .next t) ∧ (∃ t, step microStep = .next t) ∧
    fetch hostStep = .run .readT { hostStep with hostQueue := [] } none :=
  ⟨next_of_get (by decide +kernel), next_of_get (by decide +kernel), rfl⟩
-- a step that aborts: a wrong chip id in a RESET clears the valid bits and the session
theorem witness_EachElementHasItsWriters :
    fetch failing = .run (.chkid 0x60) failing (some (0x03, 0x05)) ∧ (∃ t, step failing = .next t) ∧
    get (fun t => (t.busy, t.err, t.errInfo, t.lifeState)) (step failing) =
      some (false, .protocolError, some (.chipId 0x58), .uninit) ∧
    failing.calValid = true ∧ failing.sampleValid = true ∧ failing.sessionBound = true ∧
    get (fun t => (t.calValid, t.sampleValid, t.sessionBound)) (step failing) = some (false, false, false) :=
  ⟨by decide +kernel, next_of_get (by decide +kernel), by decide +kernel, rfl, rfl, rfl, by decide +kernel⟩
theorem witness_BufferSizesKept : buffersSized microStep := by unfold buffersSized; decide

/-- A humidity of exactly 100.0 is held and a step is taken. -/
theorem witness_HumidityStaysInRange : humidityInRange withSample ∧ ∃ t, step withSample = .next t := by
  refine ⟨⟨fun h hh => ?_, fun h hh => ?_⟩, next_of_get (by decide +kernel)⟩
  · simp [withSample, bound, idle, State.powerUp] at hh
  · have : h = 0x4059000000000000 := by simpa [withSample] using hh.symm
    subst this
    unfold humidityOk
    decide +kernel

theorem witness_romParams : romParams cfgT := by unfold romParams; decide
theorem witness_launch : ControlInv (launch cfgT [0x01, 0x02, 0x03] Bus.idle) where
  params := witness_romParams
  rom := rfl
  port := rfl
  ready := by intro h; simp [launch, State.powerUp] at h
  sample := by intro h; simp [launch, State.powerUp] at h
  point := by intro h; simp [launch, State.powerUp] at h

/-- RESET just accepted after power-up. -/
def resetStart : State := { idle with busy := true, cmd := some .reset, upc := some 0x00 }

theorem witness_resetStart : ControlInv resetStart where
  params := witness_romParams
  rom := rfl
  port := rfl
  ready := by intro h; simp [resetStart, idle, State.powerUp] at h
  sample := by intro h; simp [resetStart, idle, State.powerUp] at h
  point := fun _ => ⟨0x00, .reset, rfl, rfl,
    { onRom := by decide +kernel
      owner := by unfold ownerOk; decide
      bound := by decide
      rdata := by decide
      pollcnt := by decide
      block1 := fun h => absurd h (by decide)
      block2 := fun h => absurd h (by decide)
      cal := by decide
      link := fun h => absurd h (by decide)
      burst := fun h => absurd h (by decide)
      raw := by decide
      tfine := by decide
      tNew := by decide
      pNew := by decide
      hNew := by decide }⟩

/-- REFRESH just accepted in READY. -/
def refreshStart : State := { withSample with busy := true, cmd := some .refresh, upc := some 0x18 }

theorem witness_refreshStart : ControlInv refreshStart where
  params := witness_romParams
  rom := rfl
  port := rfl
  ready := fun _ => by decide
  sample := fun _ => by decide
  point := fun _ => ⟨0x18, .refresh, rfl, rfl,
    { onRom := by decide +kernel
      owner := by unfold ownerOk; decide
      bound := by decide
      rdata := by decide
      pollcnt := by decide
      block1 := fun h => absurd h (by decide)
      block2 := fun h => absurd h (by decide)
      cal := by decide
      link := fun h => absurd h (by decide)
      burst := fun h => absurd h (by decide)
      raw := by decide
      tfine := by decide
      tNew := by decide
      pNew := by decide
      hNew := by decide }⟩

theorem witness_ControlInvariantKept :
    ControlInv refreshStart ∧ (∃ t, step refreshStart = .next t) ∧ ControlInv resetStart ∧
    ∃ t, step resetStart = .next t :=
  ⟨witness_refreshStart, next_of_get (by decide +kernel), witness_resetStart, next_of_get (by decide +kernel)⟩
theorem witness_OnlyRomWritesOnTheBus : ControlInv refreshStart ∧ onlyRomWrites refreshStart :=
  ⟨witness_refreshStart, fun a v k h => by
    simp [refreshStart, withSample, bound, idle, State.powerUp, Bus.idle] at h⟩
theorem witness_RefreshEndsInBound :
    ControlInv refreshStart ∧ refreshStart.busy = true ∧ refreshStart.upc = some 0x18 ∧
    refreshStart.cfg.pollLimit = some 3 := ⟨witness_refreshStart, rfl, rfl, rfl⟩

theorem witness_ResetEndsInBound :
    ControlInv resetStart ∧ resetStart.busy = true ∧ resetStart.upc = some 0x00 ∧
    resetStart.cfg.pollLimit = some 3 ∧ resetStart.cfg.primingCount = 2 := ⟨witness_resetStart, rfl, rfl, rfl, rfl⟩

/-- RESET just accepted, and a chip that answers 0x58 (program P4). -/
def wrongChip : State := answering [bindAns true, ans 1 [], ans 0 [0x58]] resetStart

theorem witness_WrongChipIdWritesNothing :
    ControlInv wrongChip ∧ wrongChip.busy = true ∧ wrongChip.upc = some 0x00 ∧
    wrongChip.bus.script = bindAns true :: ans 1 [] :: ans 0 [0x58] :: [] ∧ (bindAns true).bindOk = true ∧
    1 ≤ (ans 1 []).accepted ∧ (ans 0 [0x58]).bytes = 0x58 :: [] ∧ (0x58 : Byte) ≠ wrongChip.cfg.chipIdExpected := by
  refine ⟨?_, by decide⟩
  exact
    { params := witness_romParams, rom := rfl, port := rfl
      ready := witness_resetStart.ready, sample := witness_resetStart.sample
      point := fun h => by
        obtain ⟨u, c, hu, hc, hp⟩ := witness_resetStart.point h
        exact ⟨u, c, hu, hc,
          { onRom := hp.onRom, owner := hp.owner, bound := hp.bound, rdata := hp.rdata, pollcnt := hp.pollcnt
            block1 := hp.block1, block2 := hp.block2, cal := hp.cal, link := hp.link, burst := hp.burst
            raw := hp.raw, tfine := hp.tfine, tNew := hp.tNew, pNew := hp.pNew, hNew := hp.hNew }⟩ }

theorem witness_ObserverHasNoEffect :
    (∃ t, step microStep = .next t) ∧ step (running .reset 0x15) = .fault .romOverrun ∧
    step (queued 0x06) = .refused (.reservedHostCode 0x06) := ⟨next_of_get (by decide +kernel), rfl, rfl⟩
theorem witness_SensorFixtureRegisters :
    (0xF7 : Byte).toNat + 8 ≤ 255 ∧ 7 < 8 ∧ (0x00 : Byte) ≠ 0xB6 ∧ 0 < sensorF0.convTime := by decide

end Sys2Proof.Tests
end

section
/-! Rounding to binary64 (00_scope.md R16). A positive magnitude is rounded to `sig` units of `2^(exp - 1074)`; the
proofs speak of that unit (`ulp`), of the exponent and significand the model computes (`roundExp`, `roundSig`), and of
the grid of finite numbers, which seen from one unit is either whole multiples of it or below `2^52` of it. -/

namespace Sys2Proof.Machine

/-! ## The unit in the last place -/

/-- The unit in the last place of exponent `u`: `2^(u - 1074)`. -/
def ulp (u : Nat) : ℚ := 2 ^ u / 2 ^ 1074

theorem ulp_pos (u : Nat) : 0 < ulp u := div_pos (pow_pos two_pos _) (pow_pos two_pos _)

theorem ulp_add (u k : Nat) : ulp (u + k) = 2 ^ k * ulp u := by
  rw [ulp, ulp, pow_add, mul_comm, mul_div_assoc]

theorem ulp_mono {u v : Nat} (h : u ≤ v) : ulp u ≤ ulp v :=
  div_le_div_of_nonneg_right (pow_le_pow_right₀ one_le_two h) (by positivity)

theorem ulp_add_bias (v : Nat) : ulp (v + 1074) = 2 ^ v := by
  rw [ulp, pow_add, mul_div_cancel_right₀ _ (pow_ne_zero _ two_ne_zero)]

theorem scaleMag_eq (m e : Nat) : scaleMag m e = m * ulp e := by
  unfold scaleMag
  split
  case isTrue h =>
    have hpow : (2 : ℚ) ^ 1074 = 2 ^ (1074 - e) * 2 ^ e := by rw [← pow_add, Nat.sub_add_cancel h]
    have he : (2 : ℚ) ^ e ≠ 0 := by positivity
    rw [Rat.mkRat_eq_div, ulp, hpow]
    push_cast
    field_simp
  case isFalse h =>
    obtain ⟨v, rfl⟩ := Nat.exists_eq_add_of_le' (not_le.1 h).le
    rw [Rat.mkRat_eq_div, ulp_add_bias, Nat.add_sub_cancel]
    push_cast
    ring

/-! ## The fields of a pattern -/

theorem F64.toNat_pack (neg : Bool) {mag : Nat} (h : mag < 2 ^ 63) :
    (F64.pack neg mag).toNat = (if neg then 2 ^ 63 else 0) + mag := by
  unfold F64.pack
  rw [BitVec.toNat_ofNat]
  exact Nat.mod_eq_of_lt (by split <;> omega)

theorem F64.signBit_pack (neg : Bool) {mag : Nat} (h : mag < 2 ^ 63) :
    F64.signBit (F64.pack neg mag) = neg := by
  rw [F64.signBit, ← BitVec.msb_eq_getLsbD_last (x := F64.pack neg mag), BitVec.msb_eq_decide, F64.toNat_pack neg h]
  cases neg
  · simpa using h
  · simp

theorem F64.expField_pack (neg : Bool) {mag : Nat} (h : mag < 2 ^ 63) :
    F64.expField (F64.pack neg mag) = mag / 2 ^ 52 := by
  rw [F64.expField, BitVec.extractLsb'_toNat, F64.toNat_pack neg h, Nat.shiftRight_eq_div_pow]
  split <;> omega

theorem F64.fracField_pack (neg : Bool) {mag : Nat} (h : mag < 2 ^ 63) :
    F64.fracField (F64.pack neg mag) = mag % 2 ^ 52 := by
  rw [F64.fracField, BitVec.extractLsb'_toNat, F64.toNat_pack neg h, Nat.shiftRight_zero]
  split <;> omega

theorem F64.fracField_lt (x : F64) : F64.fracField x < 2 ^ 52 := (x.extractLsb' 0 52).isLt

/-! ## Finite patterns and their values -/

theorem F64.isFinite_iff (x : F64) : F64.isFinite x = true ↔ F64.expField x ≠ 2047 := by
  unfold F64.isFinite F64.unpack
  split_ifs <;> simp_all

theorem F64.value_of_isFinite {x : F64} (h : F64.isFinite x = true) :
    F64.value x = if F64.signBit x then -F64.magnitude x else F64.magnitude x := by
  rw [F64.isFinite_iff] at h
  simp only [F64.value, F64.unpack, if_neg h]

theorem F64.unpack_of_isFinite {x : F64} (h : F64.isFinite x = true) :
    F64.unpack x = .fin (F64.signBit x) (F64.value x) := by
  rw [F64.value_of_isFinite h, F64.unpack, if_neg ((F64.isFinite_iff x).1 h)]

theorem F64.magnitude_eq (x : F64) : ∃ m e : Nat, m < 2 ^ 53 ∧ F64.magnitude x = m * ulp e := by
  have hf := F64.fracField_lt x
  unfold F64.magnitude
  split
  · exact ⟨F64.fracField x, 0, by omega, scaleMag_eq _ _⟩
  · exact ⟨2 ^ 52 + F64.fracField x, F64.expField x - 1, by omega, scaleMag_eq _ _⟩

theorem F64.magnitude_nonneg (x : F64) : 0 ≤ F64.magnitude x := by
  obtain ⟨m, e, -, hx⟩ := F64.magnitude_eq x
  rw [hx]
  exact mul_nonneg m.cast_nonneg (ulp_pos e).le

theorem F64.abs_value_of_isFinite {x : F64} (h : F64.isFinite x = true) :
    |F64.value x| = F64.magnitude x := by
  rw [F64.value_of_isFinite h]
  split
  · rw [abs_neg, abs_of_nonneg (F64.magnitude_nonneg x)]
  · exact abs_of_nonneg (F64.magnitude_nonneg x)

/-- Seen from the unit of exponent `u`, a finite number is a whole multiple of it or smaller than `2^52` of it. -/
theorem F64.value_on_grid {x : F64} (h : F64.isFinite x = true) (u : Nat) :
    (∃ k : ℤ, F64.value x = k * ulp u) ∨ (0 < u ∧ |F64.value x| < 2 ^ 52 * ulp u) := by
  obtain ⟨m, e, hm, hx⟩ := F64.magnitude_eq x
  rcases le_or_gt u e with hue | hue
  · left
    obtain ⟨d, rfl⟩ := Nat.exists_eq_add_of_le hue
    rw [F64.value_of_isFinite h, hx, ulp_add]
    split
    · exact ⟨-(m * 2 ^ d), by push_cast; ring⟩
    · exact ⟨m * 2 ^ d, by push_cast; ring⟩
  · right
    obtain ⟨v, rfl⟩ : ∃ v, u = v + 1 := ⟨u - 1, by omega⟩
    have hm' : (m : ℚ) < 2 ^ 53 := by exact_mod_cast hm
    refine ⟨v.succ_pos, ?_⟩
    rw [F64.abs_value_of_isFinite h, hx]
    calc (m : ℚ) * ulp e ≤ m * ulp v := mul_le_mul_of_nonneg_left (ulp_mono (by omega)) m.cast_nonneg
      _ < 2 ^ 53 * ulp v := mul_lt_mul_of_pos_right hm' (ulp_pos v)
      _ = 2 ^ 52 * ulp (v + 1) := by rw [ulp_add]; ring

/-! ## Negation -/

@[simp] theorem F64.expField_neg (x : F64) : F64.expField (F64.neg x) = F64.expField x := by
  rw [F64.expField, F64.neg, BitVec.extractLsb'_xor, F64.expField]
  simp

@[simp] theorem F64.fracField_neg (x : F64) : F64.fracField (F64.neg x) = F64.fracField x := by
  rw [F64.fracField, F64.neg, BitVec.extractLsb'_xor, F64.fracField]
  simp

@[simp] theorem F64.signBit_neg (x : F64) : F64.signBit (F64.neg x) = !F64.signBit x := by
  rw [F64.signBit, F64.neg, BitVec.getLsbD_xor, F64.signBit]
  simp

@[simp] theorem F64.isFinite_neg (x : F64) : F64.isFinite (F64.neg x) = F64.isFinite x := by
  rw [Bool.eq_iff_iff, F64.isFinite_iff, F64.isFinite_iff, F64.expField_neg]

theorem F64.value_neg {x : F64} (h : F64.isFinite x = true) : F64.value (F64.neg x) = -F64.value x := by
  have hmag : F64.magnitude (F64.neg x) = F64.magnitude x := by
    unfold F64.magnitude
    rw [F64.expField_neg, F64.fracField_neg]
  rw [F64.value_of_isFinite ((F64.isFinite_neg x).trans h), F64.value_of_isFinite h, F64.signBit_neg, hmag]
  cases F64.signBit x <;> simp

/-! ## The exponent of a rounded number -/

/-- The first guess of `binade`, from the two logarithms, is not too small. -/
theorem log2_estimate_upper (num : Nat) {den : Nat} (hd : 0 < den) :
    num * 2 ^ 1074 < den * 2 ^ (1074 + num.log2 - den.log2 + 1) :=
  calc num * 2 ^ 1074 < 2 ^ (num.log2 + 1) * 2 ^ 1074 := by gcongr; exact Nat.lt_log2_self
    _ = 2 ^ (num.log2 + 1 + 1074) := by rw [← pow_add]
    _ ≤ 2 ^ (den.log2 + (1074 + num.log2 - den.log2 + 1)) := Nat.pow_le_pow_right two_pos (by omega)
    _ = 2 ^ den.log2 * 2 ^ (1074 + num.log2 - den.log2 + 1) := pow_add ..
    _ ≤ den * 2 ^ (1074 + num.log2 - den.log2 + 1) := Nat.mul_le_mul_right _ (Nat.log2_self_le hd.ne')

/-- One below the first guess of `binade` is not too large. -/
theorem log2_estimate_lower {num : Nat} (hn : 0 < num) (den : Nat) (he : 0 < 1074 + num.log2 - den.log2) :
    den * 2 ^ (1074 + num.log2 - den.log2 - 1) ≤ num * 2 ^ 1074 :=
  calc den * 2 ^ (1074 + num.log2 - den.log2 - 1)
      ≤ 2 ^ (den.log2 + 1) * 2 ^ (1074 + num.log2 - den.log2 - 1) :=
        Nat.mul_le_mul_right _ Nat.lt_log2_self.le
    _ = 2 ^ (num.log2 + 1074) := by rw [← pow_add]; congr 1; omega
    _ = 2 ^ num.log2 * 2 ^ 1074 := pow_add ..
    _ ≤ num * 2 ^ 1074 := Nat.mul_le_mul_right _ (Nat.log2_self_le hn.ne')

theorem lt_binade_succ (num : Nat) {den : Nat} (hd : 0 < den) :
    num * 2 ^ 1074 < den * 2 ^ (binade num den + 1) := by
  have hup := log2_estimate_upper num hd
  unfold binade
  dsimp only
  split
  case isTrue hlt =>
    exact hlt.trans_le (Nat.mul_le_mul_left _ (Nat.pow_le_pow_right two_pos (by omega)))
  case isFalse => exact hup

theorem binade_le {num den : Nat} (hn : 0 < num) (hpos : 0 < binade num den) :
    den * 2 ^ binade num den ≤ num * 2 ^ 1074 := by
  unfold binade at hpos ⊢
  dsimp only at hpos ⊢
  split at hpos
  case isTrue hlt =>
    rw [if_pos hlt]
    exact log2_estimate_lower hn den (by omega)
  case isFalse hle =>
    rw [if_neg hle]
    exact not_lt.1 hle

/-! ## Rounding a quotient to an integer -/

/-- Rounding goes down below a half and up above it; at a half it goes to the even neighbour. -/
theorem roundHalfEven_cases (num den : Nat) :
    (roundHalfEven num den = num / den ∧ 2 * (num % den) ≤ den ∧
      (2 * (num % den) = den → num / den % 2 = 0)) ∨
    (roundHalfEven num den = num / den + 1 ∧ den ≤ 2 * (num % den) ∧
      (2 * (num % den) = den → (num / den + 1) % 2 = 0)) := by
  unfold roundHalfEven
  generalize num / den = q, num % den = r
  dsimp only
  split_ifs <;> omega

/-- The rounded quotient lies within a half of the exact one, and is even where it is a half away. -/
theorem roundHalfEven_near (num : Nat) {den : Nat} (hd : 0 < den) :
    |(roundHalfEven num den : ℚ) - num / den| ≤ 1 / 2 ∧
    (|(roundHalfEven num den : ℚ) - num / den| = 1 / 2 → roundHalfEven num den % 2 = 0) := by
  have hd' : (0 : ℚ) < den := by exact_mod_cast hd
  have hnum : (num : ℚ) = den * (num / den : ℕ) + (num % den : ℕ) := by
    exact_mod_cast (Nat.div_add_mod num den).symm
  have hsplit : (num : ℚ) / den = (num / den : ℕ) + (num % den : ℕ) / den := by
    rw [div_eq_iff hd'.ne', add_mul, div_mul_cancel₀ _ hd'.ne', mul_comm, ← hnum]
  have hr_lt : ((num % den : ℕ) : ℚ) / den < 1 := (div_lt_one hd').2 (by exact_mod_cast Nat.mod_lt num hd)
  have hr_nonneg : 0 ≤ ((num % den : ℕ) : ℚ) / den := div_nonneg (Nat.cast_nonneg _) hd'.le
  have htie (h : ((num % den : ℕ) : ℚ) / den = 1 / 2) : 2 * (num % den) = den := by
    rw [div_eq_iff hd'.ne'] at h
    have : (2 : ℚ) * (num % den : ℕ) = den := by linarith
    exact_mod_cast this
  rcases roundHalfEven_cases num den with ⟨hq, hle, heven⟩ | ⟨hq, hle, heven⟩
  · have hle' : ((num % den : ℕ) : ℚ) / den ≤ 1 / 2 := by
      have : (2 : ℚ) * (num % den : ℕ) ≤ den := by exact_mod_cast hle
      rw [div_le_iff₀ hd']
      linarith
    rw [hq, hsplit, sub_add_cancel_left, abs_neg, abs_of_nonneg hr_nonneg]
    exact ⟨hle', fun h => heven (htie h)⟩
  · have hle' : 1 / 2 ≤ ((num % den : ℕ) : ℚ) / den := by
      have : (den : ℚ) ≤ 2 * (num % den : ℕ) := by exact_mod_cast hle
      rw [le_div_iff₀ hd']
      linarith
    rw [hq, hsplit, Nat.cast_add_one, add_sub_add_left_eq_sub, abs_of_pos (sub_pos.2 hr_lt)]
    exact ⟨by linarith, fun h => heven (htie (by linarith))⟩

/-- A number within a half of `s` is at least as near as any integer; another integer just as near is also a
half away. -/
theorem nearest_of_within_half {n k : ℤ} {s : ℚ} (h : |(n : ℚ) - s| ≤ 1 / 2) :
    |(n : ℚ) - s| ≤ |(k : ℚ) - s| ∧ (|(n : ℚ) - s| = |(k : ℚ) - s| → k ≠ n → |(n : ℚ) - s| = 1 / 2) := by
  by_cases hkn : k = n
  · subst hkn
    exact ⟨le_rfl, fun _ hne => absurd rfl hne⟩
  have hsep : (1 : ℚ) ≤ |(k : ℚ) - n| := by exact_mod_cast Int.one_le_abs (sub_ne_zero.2 hkn)
  have htri := abs_sub_le (k : ℚ) s n
  rw [abs_sub_comm s] at htri
  exact ⟨by linarith, fun heq _ => by linarith⟩

/-! ## Exponent and significand of a rounded rational -/

/-- The exponent `round` gives to `q`: the result is a multiple of `ulp (roundExp q)`. -/
def roundExp (q : ℚ) : Nat := binade q.num.natAbs q.den - 52

/-- The significand `round` gives to `q`, in units of `ulp (roundExp q)`. -/
def roundSig (q : ℚ) : Nat := roundHalfEven (q.num.natAbs * 2 ^ 1074) (q.den * 2 ^ roundExp q)

theorem roundMagBits_eq (q : ℚ) :
    roundMagBits q.num.natAbs q.den = min (roundExp q * 2 ^ 52 + roundSig q) (2047 * 2 ^ 52) := rfl

theorem abs_eq_natAbs_div_den (q : ℚ) : |q| = q.num.natAbs / q.den := by
  rw [Rat.abs_def, Rat.divInt_eq_div]
  rfl

theorem abs_lt_ulp_iff (q : ℚ) (v : Nat) : |q| < ulp v ↔ q.num.natAbs * 2 ^ 1074 < q.den * 2 ^ v := by
  have hden : (0 : ℚ) < q.den := by exact_mod_cast q.den_pos
  rw [abs_eq_natAbs_div_den, ulp, div_lt_div_iff₀ hden (pow_pos two_pos _), mul_comm (2 ^ v)]
  exact_mod_cast Iff.rfl

theorem abs_lt_ulp_roundExp (q : ℚ) : |q| < 2 ^ 53 * ulp (roundExp q) := by
  have hlt := (abs_lt_ulp_iff q _).2 (lt_binade_succ q.num.natAbs q.den_pos)
  rw [← ulp_add]
  exact hlt.trans_le (ulp_mono (by unfold roundExp; omega))

theorem ulp_roundExp_le_abs {q : ℚ} (hq : q ≠ 0) (hexp : 0 < roundExp q) :
    2 ^ 52 * ulp (roundExp q) ≤ |q| := by
  have hb : roundExp q + 52 = binade q.num.natAbs q.den := by unfold roundExp at *; omega
  rw [← ulp_add, hb, ← not_lt, abs_lt_ulp_iff, not_lt]
  exact binade_le (Int.natAbs_pos.2 (Rat.num_ne_zero.2 hq)) (by omega)

theorem roundSig_near (q : ℚ) :
    |(roundSig q : ℚ) - |q| / ulp (roundExp q)| ≤ 1 / 2 ∧
    (|(roundSig q : ℚ) - |q| / ulp (roundExp q)| = 1 / 2 → roundSig q % 2 = 0) := by
  have hquot : |q| / ulp (roundExp q) =
      ((q.num.natAbs * 2 ^ 1074 : ℕ) : ℚ) / (q.den * 2 ^ roundExp q : ℕ) := by
    rw [abs_eq_natAbs_div_den, ulp, div_div_div_eq]
    simp only [Nat.cast_mul, Nat.cast_pow, Nat.cast_ofNat]
  rw [hquot]
  exact roundHalfEven_near _ (Nat.mul_pos q.den_pos (Nat.two_pow_pos _))

theorem roundSig_le (q : ℚ) : roundSig q ≤ 2 ^ 53 := by
  have hnear := (abs_le.1 (roundSig_near q).1).2
  have hlt := (div_lt_iff₀ (ulp_pos _)).2 (abs_lt_ulp_roundExp q)
  have : (roundSig q : ℚ) < (2 ^ 53 + 1 : ℕ) := by push_cast; linarith
  exact Nat.lt_succ_iff.1 (by exact_mod_cast this)

theorem le_roundSig {q : ℚ} (hq : q ≠ 0) (hexp : 0 < roundExp q) : 2 ^ 52 ≤ roundSig q := by
  have hnear := (abs_le.1 (roundSig_near q).1).1
  have hle := (le_div_iff₀ (ulp_pos _)).2 (ulp_roundExp_le_abs hq hexp)
  have : ((2 ^ 52 : ℕ) : ℚ) < (roundSig q + 1 : ℕ) := by push_cast; linarith
  exact Nat.lt_succ_iff.1 (by exact_mod_cast this)

/-! ## The rounded pattern -/

@[simp] theorem F64.round_zero (z : Bool) : F64.round z 0 = F64.zero z := rfl

theorem F64.round_of_ne_zero (z : Bool) {q : ℚ} (hq : q ≠ 0) :
    F64.round z q =
      F64.pack (decide (q < 0)) (min (roundExp q * 2 ^ 52 + roundSig q) (2047 * 2 ^ 52)) := by
  rw [F64.round, if_neg (Rat.num_ne_zero.2 hq), roundMagBits_eq]
  simp only [Rat.num_neg]

@[simp] theorem F64.isFinite_zero (z : Bool) : F64.isFinite (F64.zero z) = true := by
  cases z <;> decide

@[simp] theorem F64.value_zero (z : Bool) : F64.value (F64.zero z) = 0 := by
  cases z <;> decide +kernel

theorem F64.signBit_round (z : Bool) {q : ℚ} (hq : q ≠ 0) : F64.signBit (F64.round z q) = decide (q < 0) := by
  rw [F64.round_of_ne_zero z hq, F64.signBit_pack _ (by omega)]

theorem F64.isFinite_round_iff (z : Bool) {q : ℚ} (hq : q ≠ 0) :
    F64.isFinite (F64.round z q) = true ↔ roundExp q * 2 ^ 52 + roundSig q < 2047 * 2 ^ 52 := by
  rw [F64.round_of_ne_zero z hq, F64.isFinite_iff, F64.expField_pack _ (by omega)]
  omega

/-- A finite result is the pattern whose low bits count `roundSig q` units from exponent `roundExp q`. -/
theorem F64.round_of_isFinite {z : Bool} {q : ℚ} (hq : q ≠ 0) (h : F64.isFinite (F64.round z q) = true) :
    F64.round z q = F64.pack (decide (q < 0)) (roundExp q * 2 ^ 52 + roundSig q) := by
  rw [F64.round_of_ne_zero z hq, min_eq_left ((F64.isFinite_round_iff z hq).1 h).le]

/-- `u * 2^52 + s` encodes the magnitude of `s` units of exponent `u`, also where `s` carries into the exponent. -/
theorem F64.magnitude_pack (neg : Bool) {u s : Nat} (hs : s ≤ 2 ^ 53) (hnorm : 0 < u → 2 ^ 52 ≤ s)
    (hfin : u * 2 ^ 52 + s < 2047 * 2 ^ 52) :
    F64.magnitude (F64.pack neg (u * 2 ^ 52 + s)) = s * ulp u := by
  rw [F64.magnitude, F64.expField_pack _ (by omega), F64.fracField_pack _ (by omega)]
  rcases lt_or_ge s (2 ^ 52) with hsub | hsig
  · obtain rfl : u = 0 := by omega
    rw [if_pos (by omega), scaleMag_eq]
    congr 2
    omega
  rcases hs.lt_or_eq with hlt | rfl
  · rw [if_neg (by omega), scaleMag_eq]
    congr 2 <;> omega
  · have hfrac : (u * 2 ^ 52 + 2 ^ 53) % 2 ^ 52 = 0 := by omega
    have hexp : (u * 2 ^ 52 + 2 ^ 53) / 2 ^ 52 = u + 2 := by omega
    rw [hfrac, hexp, if_neg (by omega), scaleMag_eq, Nat.add_sub_assoc (by omega), ulp_add]
    push_cast
    ring

theorem F64.value_round {z : Bool} {q : ℚ} (hq : q ≠ 0) (h : F64.isFinite (F64.round z q) = true) :
    F64.value (F64.round z q) =
      if q < 0 then -(roundSig q * ulp (roundExp q)) else roundSig q * ulp (roundExp q) := by
  have hfin := (F64.isFinite_round_iff z hq).1 h
  rw [F64.value_of_isFinite h, F64.signBit_round z hq, F64.round_of_isFinite hq h,
    F64.magnitude_pack _ (roundSig_le q) (le_roundSig hq) hfin]
  simp only [decide_eq_true_eq]

theorem F64.fracField_round {z : Bool} {q : ℚ} (hq : q ≠ 0) (h : F64.isFinite (F64.round z q) = true) :
    F64.fracField (F64.round z q) % 2 = roundSig q % 2 := by
  have hfin := (F64.isFinite_round_iff z hq).1 h
  rw [F64.round_of_isFinite hq h, F64.fracField_pack _ (by omega)]
  omega

/-! ## Overflow -/

theorem overflow_threshold : (2 : ℚ) ^ 1024 - 2 ^ 970 = (2 ^ 53 - 1 / 2) * ulp 2045 := by
  have hbound : (2 : ℚ) ^ 1024 = 2 ^ 54 * ulp 2044 := (ulp_add_bias 1024).symm.trans (ulp_add 2044 54)
  have hhalf : (2 : ℚ) ^ 970 = ulp 2044 := (ulp_add_bias 970).symm
  have hunit : ulp 2045 = 2 ^ 1 * ulp 2044 := ulp_add 2044 1
  rw [hbound, hhalf, hunit]
  ring

theorem F64.isFinite_round_of_exp (z : Bool) {q : ℚ} (hq : q ≠ 0) (hexp : roundExp q < 2045) :
    F64.isFinite (F64.round z q) = true := by
  have := roundSig_le q
  rw [F64.isFinite_round_iff z hq]
  omega

/-- In the last binade the significand carries into the infinity pattern from half a unit below `2^53` on: the tie
goes up, since `2^53 - 1` is odd. -/
theorem lt_threshold_iff_of_roundExp {q : ℚ} (hexp : roundExp q = 2045) :
    roundExp q * 2 ^ 52 + roundSig q < 2047 * 2 ^ 52 ↔ |q| < (2 ^ 53 - 1 / 2) * ulp 2045 := by
  obtain ⟨hhalf, heven⟩ := roundSig_near q
  rw [hexp] at hhalf heven ⊢
  rw [← div_lt_iff₀ (ulp_pos _)]
  generalize |q| / ulp 2045 = s at hhalf heven ⊢
  have hsig : 2045 * 2 ^ 52 + roundSig q < 2047 * 2 ^ 52 ↔ roundSig q < 2 ^ 53 := by omega
  rw [hsig]
  constructor
  · intro hlt
    by_contra! hge
    have hlow := (abs_le.1 hhalf).1
    have hmax : roundSig q = 2 ^ 53 - 1 := by
      have : ((2 ^ 53 : ℕ) : ℚ) ≤ (roundSig q + 1 : ℕ) := by push_cast; linarith
      have := Nat.cast_le.1 this
      omega
    have hval : (roundSig q : ℚ) = 2 ^ 53 - 1 := by rw [hmax]; norm_num
    have hfar : 1 / 2 ≤ |(roundSig q : ℚ) - s| := le_trans (by linarith) (neg_le_abs _)
    have := heven (le_antisymm hhalf hfar)
    omega
  · intro hlt
    have : (roundSig q : ℚ) < (2 ^ 53 : ℕ) := by
      have := (abs_le.1 hhalf).2
      push_cast
      linarith
    exact_mod_cast this

theorem F64.isFinite_round_iff_abs_lt (z : Bool) {q : ℚ} (hq : q ≠ 0) :
    F64.isFinite (F64.round z q) = true ↔ |q| < 2 ^ 1024 - 2 ^ 970 := by
  have hlt := abs_lt_ulp_roundExp q
  have hle := ulp_roundExp_le_abs hq
  have hulp := ulp_pos 2045
  rw [overflow_threshold]
  rcases lt_trichotomy (roundExp q) 2045 with hexp | hexp | hexp
  · have hsmall : 2 ^ 53 * ulp (roundExp q) ≤ 2 ^ 52 * ulp 2045 := by
      rw [← ulp_add, ← ulp_add]; exact ulp_mono (by omega)
    exact iff_of_true (F64.isFinite_round_of_exp z hq hexp) (by linarith)
  · exact (F64.isFinite_round_iff z hq).trans (lt_threshold_iff_of_roundExp hexp)
  · have hlarge : 2 ^ 53 * ulp 2045 ≤ 2 ^ 52 * ulp (roundExp q) := by
      rw [← ulp_add, ← ulp_add]; exact ulp_mono (by omega)
    have hsig := le_roundSig hq (by omega)
    have hbig := hle (by omega)
    refine iff_of_false ?_ (by linarith)
    rw [F64.isFinite_round_iff z hq]
    omega

/-! ## Nearest -/

/-- A finite result counts a whole number of units, within a half of the exact count, and its fraction is even
where the count is a half away. -/
theorem F64.round_within_half {z : Bool} {q : ℚ} (hq : q ≠ 0) (h : F64.isFinite (F64.round z q) = true) :
    ∃ n : ℤ, F64.value (F64.round z q) = n * ulp (roundExp q) ∧ |n - q / ulp (roundExp q)| ≤ 1 / 2 ∧
      (|n - q / ulp (roundExp q)| = 1 / 2 → F64.fracField (F64.round z q) % 2 = 0) := by
  have hnear := roundSig_near q
  rw [F64.fracField_round hq h, F64.value_round hq h]
  split
  case isTrue hneg =>
    rw [abs_of_neg hneg, neg_div, sub_neg_eq_add, ← abs_neg, neg_add'] at hnear
    exact ⟨-roundSig q, by push_cast; ring, by push_cast; exact hnear⟩
  case isFalse hpos =>
    rw [abs_of_nonneg (not_lt.1 hpos)] at hnear
    exact ⟨roundSig q, by push_cast; ring, by push_cast; exact hnear⟩

/-- A finite result is as near to the exact number as every whole multiple of its unit, and its fraction is even
where another multiple is just as near. -/
theorem F64.round_nearest_multiple {z : Bool} {q : ℚ} (hq : q ≠ 0) (h : F64.isFinite (F64.round z q) = true)
    (k : ℤ) :
    |F64.value (F64.round z q) - q| ≤ |k * ulp (roundExp q) - q| ∧
    (|F64.value (F64.round z q) - q| = |k * ulp (roundExp q) - q| →
      k * ulp (roundExp q) ≠ F64.value (F64.round z q) → F64.fracField (F64.round z q) % 2 = 0) := by
  obtain ⟨n, hval, hhalf, heven⟩ := F64.round_within_half hq h
  obtain ⟨hle, htie⟩ := nearest_of_within_half (k := k) hhalf
  have hu := ulp_pos (roundExp q)
  have hscale (m : ℤ) : |m * ulp (roundExp q) - q| = |m - q / ulp (roundExp q)| * ulp (roundExp q) := by
    rw [← abs_of_pos hu, ← abs_mul, abs_of_pos hu, sub_mul, div_mul_cancel₀ _ hu.ne']
  rw [hval, hscale, hscale]
  refine ⟨mul_le_mul_of_nonneg_right hle hu.le, fun heq hne => heven (htie (mul_right_cancel₀ hu.ne' heq) ?_)⟩
  rintro rfl
  exact hne rfl

/-- A number below the binade of `q` is farther from `q` than the rounded result. -/
theorem F64.round_nearer_of_lt_binade {z : Bool} {q : ℚ} (hq : q ≠ 0)
    (h : F64.isFinite (F64.round z q) = true) {y : ℚ} (hexp : 0 < roundExp q)
    (hy : |y| < 2 ^ 52 * ulp (roundExp q)) : |F64.value (F64.round z q) - q| < |y - q| := by
  have hle := ulp_roundExp_le_abs hq hexp
  have htri := abs_sub_abs_le_abs_sub q y
  rw [abs_sub_comm q] at htri
  suffices hbase : |F64.value (F64.round z q) - q| ≤ |q| - 2 ^ 52 * ulp (roundExp q) by linarith
  rcases hq.lt_or_gt with hneg | hpos
  · have hcmp := (F64.round_nearest_multiple hq h (-2 ^ 52)).1
    push_cast at hcmp
    rw [abs_of_neg hneg] at hle ⊢
    exact hcmp.trans (abs_le.2 ⟨by linarith, by linarith⟩)
  · have hcmp := (F64.round_nearest_multiple hq h (2 ^ 52)).1
    push_cast at hcmp
    rw [abs_of_pos hpos] at hle ⊢
    exact hcmp.trans (abs_le.2 ⟨by linarith, by linarith⟩)

theorem F64.round_nearest_even {z : Bool} {q : ℚ} (hq : q ≠ 0) (h : F64.isFinite (F64.round z q) = true)
    {y : F64} (hy : F64.isFinite y = true) :
    |F64.value (F64.round z q) - q| ≤ |F64.value y - q| ∧
    (|F64.value (F64.round z q) - q| = |F64.value y - q| → F64.value y ≠ F64.value (F64.round z q) →
      F64.fracField (F64.round z q) % 2 = 0) := by
  rcases F64.value_on_grid hy (roundExp q) with ⟨k, hk⟩ | ⟨hexp, hlt⟩
  · rw [hk]
    exact F64.round_nearest_multiple hq h k
  · have hnear := F64.round_nearer_of_lt_binade hq h hexp hlt
    exact ⟨hnear.le, fun heq => absurd heq hnear.ne⟩

/-- Settles O45: an exact zero is the zero pattern; any other number is compared with the grid of its own unit. -/
theorem roundsToNearestEven : Obligations.RoundsToNearestEven := by
  intro z q
  rcases eq_or_ne q 0 with rfl | hq
  · rw [F64.round_zero, F64.value_zero]
    refine ⟨iff_of_true (F64.isFinite_zero z) ?_, fun _ y _ => ⟨?_, fun htie hne => absurd ?_ hne⟩⟩
    · rw [abs_zero, sub_pos]
      exact pow_lt_pow_right₀ one_lt_two (by omega)
    · simp
    · rwa [sub_zero, abs_zero, sub_zero, eq_comm, abs_eq_zero] at htie
  · exact ⟨F64.isFinite_round_iff_abs_lt z hq, fun h y hy => F64.round_nearest_even hq h hy⟩

/-! ## Integers -/

theorem F64.ofInt_exact {n : Int} (hn : |n| < 2 ^ 53) :
    F64.isFinite (F64.ofInt n) = true ∧ F64.value (F64.ofInt n) = n := by
  rcases eq_or_ne n 0 with rfl | hne
  · exact ⟨F64.isFinite_zero false, F64.value_zero false⟩
  have hq : (n : ℚ) ≠ 0 := Int.cast_ne_zero.2 hne
  have hn' : |(n : ℚ)| < 2 ^ 53 := by exact_mod_cast hn
  have hexp : roundExp n ≤ 1074 := by
    by_contra! hgt
    have hle := ulp_roundExp_le_abs hq (by omega)
    have hulp : ulp (1 + 1074) ≤ ulp (roundExp n) := ulp_mono (by omega)
    rw [ulp_add_bias] at hulp
    linarith
  have hfin : F64.isFinite (F64.round false n) = true := F64.isFinite_round_of_exp false hq (by omega)
  refine ⟨hfin, ?_⟩
  have hunit : (1 : ℚ) = 2 ^ (1074 - roundExp n) * ulp (roundExp n) := by
    rw [← ulp_add, Nat.add_sub_cancel' hexp, ← Nat.zero_add 1074, ulp_add_bias, pow_zero]
  have hnear := (F64.round_nearest_multiple hq hfin (n * 2 ^ (1074 - roundExp n))).1
  push_cast at hnear
  rw [mul_assoc, ← hunit, mul_one, sub_self, abs_zero] at hnear
  exact sub_eq_zero.1 (abs_nonpos_iff.1 hnear)

/-! ## Operations on finite operands -/

section
variable {a b : F64} (ha : F64.isFinite a = true) (hb : F64.isFinite b = true)
include ha hb

theorem F64.add_eq_round :
    F64.add a b = F64.round (F64.signBit a && F64.signBit b) (F64.value a + F64.value b) := by
  rw [F64.add, F64.unpack_of_isFinite ha, F64.unpack_of_isFinite hb]

theorem F64.sub_eq_round :
    F64.sub a b = F64.round (F64.signBit a && !F64.signBit b) (F64.value a - F64.value b) := by
  rw [F64.sub, F64.add_eq_round ha ((F64.isFinite_neg b).trans hb), F64.signBit_neg, F64.value_neg hb,
    sub_eq_add_neg]

theorem F64.mul_eq_round :
    F64.mul a b = F64.round (F64.signBit a != F64.signBit b) (F64.value a * F64.value b) := by
  rw [F64.mul, F64.unpack_of_isFinite ha, F64.unpack_of_isFinite hb]

theorem F64.div_eq_round (hb0 : F64.isZero b = false) :
    F64.div a b = F64.round (F64.signBit a != F64.signBit b) (F64.value a / F64.value b) := by
  have hne : F64.value b ≠ 0 := by
    simpa [F64.isZero, F64.unpack_of_isFinite hb] using hb0
  rw [F64.div, F64.unpack_of_isFinite ha, F64.unpack_of_isFinite hb]
  exact if_neg hne

end

/-- Settles O46: the operations unpack finite operands to their exact values and round the exact result once. -/
theorem operationsRoundOnce : Obligations.OperationsRoundOnce :=
  ⟨fun _ _ ha hb => ⟨F64.add_eq_round ha hb, F64.sub_eq_round ha hb, F64.mul_eq_round ha hb,
      F64.div_eq_round ha hb⟩,
    fun _ hn => F64.ofInt_exact hn,
    fun z => ⟨F64.round_zero z, rfl, rfl⟩,
    fun z _ hq => F64.signBit_round z hq⟩

end Sys2Proof.Machine
end

section
/-! Bounds of binary64 computations (00_scope.md R16) and the range of the humidity (42_compensation_double.md R260 to
R262, 43_compensation_fixed.md R295). An expression whose operands are bounded by powers of two stays finite as long
as the exponents add up to less than 1024; from there the clamp alone gives [0, 100]. -/

namespace Sys2Proof.Machine

/-! ## Rounding stays between the finite numbers around it -/

/-- No rounding crosses a finite number from below: the result is as near to `q` as that number is. -/
theorem F64.value_round_le {z : Bool} {q : ℚ} {x : F64} (hq : F64.isFinite (F64.round z q) = true)
    (hx : F64.isFinite x = true) (hle : q ≤ F64.value x) : F64.value (F64.round z q) ≤ F64.value x := by
  have hnear := ((roundsToNearestEven z q).2 hq x hx).1
  rw [abs_of_nonneg (sub_nonneg.2 hle)] at hnear
  linarith [le_abs_self (F64.value (F64.round z q) - q)]

/-- No rounding crosses a finite number from above. -/
theorem F64.le_value_round {z : Bool} {q : ℚ} {x : F64} (hq : F64.isFinite (F64.round z q) = true)
    (hx : F64.isFinite x = true) (hle : F64.value x ≤ q) : F64.value x ≤ F64.value (F64.round z q) := by
  have hnear := ((roundsToNearestEven z q).2 hq x hx).1
  rw [abs_of_nonpos (sub_nonpos.2 hle)] at hnear
  linarith [neg_abs_le (F64.value (F64.round z q) - q)]

/-! ## Finite numbers bounded by a power of two -/

/-- The pattern of `2 ^ k`, for `k` up to 1023. -/
def F64.powTwo (k : Nat) : F64 := F64.pack false ((k + 1022) * 2 ^ 52 + 2 ^ 52)

theorem F64.isFinite_powTwo {k : Nat} (hk : k ≤ 1023) : F64.isFinite (F64.powTwo k) = true := by
  rw [F64.powTwo, F64.isFinite_iff, F64.expField_pack _ (by omega)]
  omega

theorem F64.value_powTwo {k : Nat} (hk : k ≤ 1023) : F64.value (F64.powTwo k) = 2 ^ k := by
  have hscale : ((2 ^ 52 : ℕ) : ℚ) * ulp (k + 1022) = 2 ^ k := by
    rw [Nat.cast_pow, Nat.cast_ofNat, ← ulp_add, ← ulp_add_bias]
  rw [F64.value_of_isFinite (F64.isFinite_powTwo hk), F64.powTwo, F64.signBit_pack _ (by omega),
    F64.magnitude_pack _ (by omega) (fun _ => le_rfl) (by omega), hscale]
  rfl

/-- `x` is a finite number of magnitude at most `2 ^ k`. -/
def F64.Within (k : Nat) (x : F64) : Prop := F64.isFinite x = true ∧ |F64.value x| ≤ 2 ^ k

theorem F64.Within.mono {j k : Nat} {x : F64} (h : F64.Within j x) (hjk : j ≤ k) : F64.Within k x :=
  ⟨h.1, h.2.trans (pow_le_pow_right₀ one_le_two hjk)⟩

/-- Rounding keeps a power of two as a bound, since that power is itself a number. -/
theorem F64.within_round {k : Nat} {q : ℚ} (z : Bool) (hk : k ≤ 1023) (hq : |q| ≤ 2 ^ k) :
    F64.Within k (F64.round z q) := by
  have hfin : F64.isFinite (F64.round z q) = true := by
    refine (roundsToNearestEven z q).1.2 (hq.trans_lt ?_)
    have hbound : (2 : ℚ) ^ k ≤ 2 ^ 1023 := pow_le_pow_right₀ one_le_two hk
    have hslack : (2 : ℚ) ^ 970 < 2 ^ 1023 := pow_lt_pow_right₀ one_lt_two (by omega)
    rw [lt_sub_iff_add_lt, pow_succ (2 : ℚ) 1023, mul_two]
    exact add_lt_add_of_le_of_lt hbound hslack
  obtain ⟨hlow, hhigh⟩ := abs_le.1 hq
  have hpos := F64.isFinite_powTwo hk
  have hneg := (F64.isFinite_neg (F64.powTwo k)).trans hpos
  have hup := F64.value_round_le hfin hpos (by rwa [F64.value_powTwo hk])
  have hdown := F64.le_value_round hfin hneg (by rwa [F64.value_neg hpos, F64.value_powTwo hk])
  rw [F64.value_powTwo hk] at hup
  rw [F64.value_neg hpos, F64.value_powTwo hk] at hdown
  exact ⟨hfin, abs_le.2 ⟨hdown, hup⟩⟩

theorem F64.within_ofInt {k : Nat} {n : Int} (hk : k ≤ 52) (hn : |n| ≤ 2 ^ k) : F64.Within k (F64.ofInt n) :=
  F64.within_round false (by omega) (by exact_mod_cast hn)

theorem F64.lit_exact {n : Nat} (hn : n < 2 ^ 53) :
    F64.isFinite (F64.lit n) = true ∧ F64.value (F64.lit n) = n :=
  F64.ofInt_exact (n := n) (by rw [Nat.abs_cast]; exact_mod_cast hn)

section
variable {j k : Nat} {a b : F64}

theorem F64.Within.add (ha : F64.Within j a) (hb : F64.Within k b) (hk : max j k + 1 ≤ 1023 := by omega) :
    F64.Within (max j k + 1) (F64.add a b) := by
  have ha' := (ha.mono (le_max_left j k)).2
  have hb' := (hb.mono (le_max_right j k)).2
  rw [F64.add_eq_round ha.1 hb.1]
  refine F64.within_round _ hk ((abs_add_le _ _).trans ?_)
  rw [pow_succ]
  linarith

theorem F64.Within.neg (ha : F64.Within k a) : F64.Within k (F64.neg a) :=
  ⟨(F64.isFinite_neg a).trans ha.1, by rw [F64.value_neg ha.1, abs_neg]; exact ha.2⟩

theorem F64.Within.sub (ha : F64.Within j a) (hb : F64.Within k b) (hk : max j k + 1 ≤ 1023 := by omega) :
    F64.Within (max j k + 1) (F64.sub a b) := ha.add hb.neg hk

theorem F64.Within.mul (ha : F64.Within j a) (hb : F64.Within k b) (hk : j + k ≤ 1023 := by omega) :
    F64.Within (j + k) (F64.mul a b) := by
  rw [F64.mul_eq_round ha.1 hb.1]
  refine F64.within_round _ hk ?_
  rw [abs_mul, pow_add]
  exact mul_le_mul ha.2 hb.2 (abs_nonneg _) (by positivity)

/-- Dividing by a literal of at least 1 does not grow a number. -/
theorem F64.Within.divLit (ha : F64.Within k a) (n : Nat) (hk : k ≤ 1023 := by omega) (hn : 1 ≤ n := by omega)
    (hn' : n < 2 ^ 53 := by omega) : F64.Within k (F64.div a (F64.lit n)) := by
  obtain ⟨hfin, hval⟩ := F64.lit_exact hn'
  have hone : (1 : ℚ) ≤ n := by exact_mod_cast hn
  have hzero : F64.isZero (F64.lit n) = false := by
    simpa [F64.isZero, F64.unpack_of_isFinite hfin, hval] using (by omega : n ≠ 0)
  rw [F64.div_eq_round ha.1 hfin hzero, hval]
  refine F64.within_round _ hk ?_
  rw [abs_div, Nat.abs_cast]
  exact (div_le_self (abs_nonneg _) hone).trans ha.2

end

theorem F64.within_lit (k : Nat) {n : Nat} (hk : k ≤ 52 := by omega) (hn : n ≤ 2 ^ k := by omega) :
    F64.Within k (F64.lit n) :=
  F64.within_ofInt hk (by rw [Nat.abs_cast]; exact_mod_cast hn)

theorem F64.within_ofInt_toInt {w : Nat} (x : BitVec (w + 1)) (hw : w ≤ 52 := by omega) :
    F64.Within w (F64.ofInt x.toInt) :=
  F64.within_ofInt hw (abs_le.2 ⟨by simpa using x.le_toInt, by simpa using x.toInt_lt.le⟩)

theorem F64.within_ofInt_toNat {w : Nat} (x : BitVec w) (hw : w ≤ 52 := by omega) :
    F64.Within w (F64.ofInt x.toNat) :=
  F64.within_ofInt hw (by rw [Nat.abs_cast]; exact_mod_cast x.isLt.le)

/-! ## Humidity in binary64 (R260 to R262) -/

/-- The unclamped humidity is finite for every TFINE register, count and coefficient set: its exponents add up to
309. -/
theorem hUnclamped_within (f : BitVec 32) (rawH : BitVec 16) (c : Cal) :
    F64.Within 309 (hUnclamped f.toInt rawH c) := by
  have one : F64.Within 0 (F64.lit 1) := F64.within_lit 0
  have h := (F64.within_ofInt_toInt f).sub (F64.within_lit 31 (n := 76800))
  have inner := ((F64.within_ofInt_toInt c.digH4).mul (F64.within_lit 6 (n := 64))).add
    (((F64.within_ofInt_toInt c.digH5).divLit 16384).mul h)
  have left := (F64.within_ofInt_toNat rawH).sub inner
  have h6 := ((F64.within_ofInt_toInt c.digH6).divLit 67108864).mul h
  have h3 := ((F64.within_ofInt_toNat c.digH3).divLit 67108864).mul h
  have right := ((F64.within_ofInt_toInt c.digH2).divLit 65536).mul (one.add (h6.mul (one.add h3)))
  have g := left.mul right
  exact (g.mul (one.sub (((F64.within_ofInt_toNat c.digH1).mul g).divLit 524288))).mono (by omega)

theorem F64.lt_iff {a b : F64} (ha : F64.isFinite a = true) (hb : F64.isFinite b = true) :
    F64.lt a b = true ↔ F64.value a < F64.value b := by
  simp only [F64.lt, F64.unpack_of_isFinite ha, F64.unpack_of_isFinite hb, decide_eq_true_eq]

theorem humidityOk_iff_between_lits {h : F64} (hfin : F64.isFinite h = true) :
    humidityOk h ↔ F64.value (F64.zero false) ≤ F64.value h ∧ F64.value h ≤ F64.value (F64.lit 100) := by
  rw [F64.value_zero, (F64.lit_exact (n := 100) (by norm_num)).2]
  simp [humidityOk, hfin]

/-- The clamp takes a finite number into [0, 100]: what neither comparison catches lies between the limits. -/
theorem humidityOk_hClamp {h : F64} (hfin : F64.isFinite h = true) : humidityOk (hClamp h) := by
  have hfin100 := (F64.lit_exact (n := 100) (by norm_num)).1
  have hle : F64.value (F64.zero false) ≤ F64.value (F64.lit 100) := by
    rw [F64.value_zero, (F64.lit_exact (n := 100) (by norm_num)).2]
    norm_num
  unfold hClamp
  split_ifs with habove hbelow
  · exact (humidityOk_iff_between_lits hfin100).2 ⟨hle, le_rfl⟩
  · exact (humidityOk_iff_between_lits (F64.isFinite_zero false)).2 ⟨le_rfl, hle⟩
  · rw [F64.lt_iff hfin100 hfin, not_lt] at habove
    rw [F64.lt_iff hfin (F64.isFinite_zero false), not_lt] at hbelow
    exact (humidityOk_iff_between_lits hfin).2 ⟨hbelow, habove⟩

/-! ## Humidity in integers (R295) -/

/-- H_INT is at most 100 %RH in Q22.10. -/
theorem hIntOf_range (tfine : Int) (rawH : BitVec 16) (c : Cal) :
    0 ≤ hIntOf tfine rawH c ∧ hIntOf tfine rawH c ≤ 102400 := by
  unfold hIntOf asr
  dsimp only
  split_ifs <;> omega

/-- A word of at most 100 %RH in Q22.10 is at most 100 as a number: the quotient lies between two numbers. -/
theorem humidityOk_hNewFixed {w : Int} (hlow : 0 ≤ w) (hhigh : w ≤ 102400) : humidityOk (hNewFixed w) := by
  obtain ⟨hfin100, hval100⟩ := F64.lit_exact (n := 100) (by norm_num)
  obtain ⟨hfinD, hvalD⟩ := F64.lit_exact (n := 1024) (by norm_num)
  obtain ⟨hfinW, hvalW⟩ := F64.ofInt_exact (n := w) (by rw [abs_of_nonneg hlow]; omega)
  have hfin : F64.isFinite (hNewFixed w) = true :=
    ((F64.within_ofInt (k := 17) (by omega) (by rw [abs_of_nonneg hlow]; omega)).divLit 1024).1
  have hzero : F64.isZero (F64.lit 1024) = false := by
    simp [F64.isZero, F64.unpack_of_isFinite hfinD, hvalD]
  rw [humidityOk_iff_between_lits hfin]
  rw [hNewFixed, F64.div_eq_round hfinW hfinD hzero, hvalW, hvalD] at hfin ⊢
  have hlow' : (0 : ℚ) ≤ w := by exact_mod_cast hlow
  have hhigh' : (w : ℚ) ≤ 102400 := by exact_mod_cast hhigh
  refine ⟨F64.le_value_round hfin (F64.isFinite_zero false) ?_, F64.value_round_le hfin hfin100 ?_⟩
  · rw [F64.value_zero]
    exact div_nonneg hlow' (Nat.cast_nonneg _)
  · rw [hval100]
    push_cast
    linarith

/-- COMPH's result under every variant (R265). -/
theorem humidityOk_humResult (p : BcbConfig) (f : BitVec 32) (rawH : BitVec 16) (c : Cal) :
    humidityOk (humResult p f.toInt rawH c).1 := by
  obtain ⟨hlow, hhigh⟩ := hIntOf_range f.toInt rawH c
  unfold humResult
  cases p.compVariant with
  | double =>
    dsimp only [hNewOf]
    exact humidityOk_hClamp (hUnclamped_within f rawH c).1
  | int64p | int32p =>
    exact humidityOk_hNewFixed hlow hhigh

end Sys2Proof.Machine
end
section
/-! What one step can do to the state, said once (44_controller.md R320, R330): the fetch hands over an instruction, its
meaning has one of the effects listed in `Effect`, and the observer adds to its own log alone. Every rule of the kind
"this element is changed only by that instruction" is read off the list. -/

namespace Sys2Proof.Machine

/-! ## The effects of the instructions -/

/-- `Effect s i t`: the meaning of `i`, on a state `s`, can answer the next state `t`. -/
inductive Effect (s : State) : Instr → State → Prop
  /-- RESET is accepted (R321). -/
  | resetAccepted (hb : s.busy = false) : Effect s .reset (acceptCommand .reset resetEntry s)
  /-- REFRESH is accepted (R322). -/
  | refreshAccepted (hb : s.busy = false) (hl : s.lifeState = .ready) :
      Effect s .refresh (acceptCommand .refresh refreshEntry s)
  /-- A host command completes with NotReady (R327). -/
  | notReady {i : Instr} (code : Byte) (hi : Laws.setOf i = .host) (hb : s.busy = false) :
      Effect s i (notReady code s)
  /-- A READ_* command returns a sample (R323 to R325). -/
  | returned {i : Instr} (code : Byte) (v : F64) (hi : i = .readT ∨ i = .readP ∨ i = .readH)
      (hb : s.busy = false) (hv : s.sampleValid = true) :
      Effect s i { s with err := .none, hostReturns := s.hostReturns ++ [{ code := code, value := v }] }
  /-- A register write presented directly completes (R161). -/
  | wireWritten {i : Instr} (b : Bus) (hi : Laws.setOf i = .wire) : Effect s i { s with bus := b }
  /-- A read presented directly completes with its bytes (R162, R163). -/
  | wireRead {i : Instr} (b : Bus) (d : List Byte) (hi : Laws.setOf i = .wire) :
      Effect s i { s with bus := b, wireResult := some d }
  /-- A Bind presented directly completes (R164). -/
  | wireBound (b : Bus) : Effect s .bindSession { s with bus := b, sessionBound := true }
  /-- An error of a transaction presented directly while no command runs is recorded (log 7). -/
  | wireFailed {i : Instr} (b : Bus) (info : ErrInfo) (hi : Laws.setOf i = .wire) (hb : s.busy = false) :
      Effect s i { s with bus := b, err := errKindOf info, errInfo := some info }
  /-- An error aborts a REFRESH (R380, R394). -/
  | refreshAborted {i : Instr} (b : Bus) (info : ErrInfo) (hi : Laws.setOf i ≠ .host)
      (hb : Laws.setOf i = .wire → s.busy = true) (hc : s.cmd = some .refresh) :
      Effect s i (abortWith info .refresh { s with bus := b })
  /-- An error aborts a RESET (R380, R395). -/
  | resetAborted {i : Instr} (b : Bus) (info : ErrInfo) (hi : Laws.setOf i ≠ .host)
      (hb : Laws.setOf i = .wire → s.busy = true) (hc : s.cmd = some .reset) :
      Effect s i (abortWith info .reset { s with bus := b })
  /-- END (R331). -/
  | ended : Effect s .endCmd { s with err := .none, busy := false }
  /-- A micro-operation only moves UPC: a passed check, BBUSY or RET (R333, R335, R341, R241). -/
  | passed {i : Instr} (u : Byte) (hi : i = .chkrsv ∨ i = .ret ∨ (∃ v, i = .chkid v) ∨ ∃ m l, i = .bbusy m l) :
      Effect s i { s with upc := some u }
  /-- BIND completes (R181). -/
  | bound (b : Bus) (u : Byte) :
      Effect s .bind { s with bus := b, sessionBound := true, upc := some u }
  /-- WR completes (R178). -/
  | wrote (a v : Byte) (b : Bus) (u : Byte) : Effect s (.wr a v) { s with bus := b, upc := some u }
  /-- RD completes (R179). -/
  | read (a : Byte) (b : Bus) (d : Option Byte) (u : Byte) :
      Effect s (.rd a) { s with bus := b, rdata := d, upc := some u }
  /-- RDB completes with a burst of its length, which fits its buffer (R180, R147). -/
  | burst (a n : Byte) (buf : BufId) (b : Bus) (d : List Byte) (u : Byte) (hn : d.length ≤ buf.capacity) :
      Effect s (.rdb a n buf) (({ s with bus := b, upc := some u } : State).putBurst buf d)
  /-- PINIT (R336). -/
  | pollInit (u : Byte) : Effect s .pinit { s with pollcnt := some 0, upc := some u }
  /-- PWAIT (R337). -/
  | pollWait (b : Bus) (n : Nat) (u : Byte) :
      Effect s .pwait { s with bus := b, pollcnt := some (n + 1), upc := some u }
  /-- CALL (R332). -/
  | called (l u : Byte) : Effect s (.call l) { s with link := some u, upc := some l }
  /-- SETST (R342). -/
  | stateSet (st : LifeState) (u : Byte) : Effect s (.setst st) { s with lifeState := st, upc := some u }
  /-- PCAL (R200, R221). -/
  | calibrated (c : Cal) (u : Byte) : Effect s .pcal { s with cal := some c, calValid := true, upc := some u }
  /-- DECODE (R240). -/
  | decoded (p t : BitVec 20) (h : BitVec 16) (u : Byte) :
      Effect s .decode
        { s with rawP := some p, rawT := some t, rawH := some h, rawGen := s.rawGen + 1, upc := some u }
  /-- COMPT (R245, R281). -/
  | temperature (f : BitVec 32) (x : F64) (w : Option (BitVec 32)) (u : Byte) :
      Effect s .compt
        { s with tfine := some f, tNew := some x, tInt := w, tfineGen := s.rawGen, upc := some u }
  /-- COMPP (R250, R285, R290). -/
  | pressure (x : F64) (w : Option (BitVec 32)) (u : Byte) :
      Effect s .compp { s with pNew := some x, pInt := w, upc := some u }
  /-- COMPH: H_NEW is the humidity of some TFINE, count and coefficients (R260, R295). -/
  | humidity (f : BitVec 32) (raw : BitVec 16) (c : Cal) (w : Option (BitVec 32)) (u : Byte) :
      Effect s .comph { s with hNew := some (humResult s.cfg f.toInt raw c).1, hInt := w, upc := some u }
  /-- COMMIT takes the three new values over (R343, R96). -/
  | committed (t p h : F64) (u : Byte) (ht : s.tNew = some t) (hp : s.pNew = some p) (hh : s.hNew = some h) :
      Effect s .commit
        { s with sampleT := some t, sampleP := some p, sampleH := some h, sampleValid := true, upc := some u }

variable {s t : State} {i : Instr}

/-- The abort of whichever command runs. -/
theorem Effect.aborted {c : HostCmd} (b : Bus) (info : ErrInfo) (hi : Laws.setOf i ≠ .host)
    (hb : Laws.setOf i = .wire → s.busy = true) (hc : s.cmd = some c) :
    Effect s i (abortWith info c { s with bus := b }) := by
  cases c with
  | refresh => exact .refreshAborted b info hi hb hc
  | reset => exact .resetAborted b info hi hb hc

/-! ## Transactions -/

/-- A transaction that raises has changed the bus alone. -/
def Tx.RaisesFrom {α : Type} (x : Tx α) (s : State) : Prop :=
  ∀ info t, x = .raised info t → ∃ b, t = { s with bus := b }

theorem writeRegisterTx_raisesFrom (a v : Byte) : (writeRegisterTx a v s).RaisesFrom s := by
  intro info t h
  obtain ⟨-, -, -, rfl⟩ := writeRegisterTx_raised h
  exact ⟨_, rfl⟩

theorem readTx_raisesFrom (kind : XferKind) (a : Byte) (n : Nat) : (readTx kind a n s).RaisesFrom s := by
  intro info t h
  obtain ⟨-, ⟨-, -, rfl⟩ | ⟨-, -, -, rfl⟩⟩ := readTx_raised h
  · exact ⟨_, rfl⟩
  · exact ⟨_, rfl⟩

theorem bindTx_raisesFrom : (bindTx s).RaisesFrom s := by
  intro info t h
  obtain ⟨-, -, rfl⟩ := bindTx_raised h
  exact ⟨_, rfl⟩

/-- A transaction of a micro-operation completes, or aborts the running command. -/
theorem effect_of_finish {α : Type} {x : Tx α} {k : α → State → Res} (hi : Laws.setOf i = .micro)
    (hx : x.RaisesFrom s) (h : x.finish k = .next t) (hdone : ∀ v s', x = .done v s' → k v s' = .next t → Effect s i t) :
    Effect s i t := by
  rcases finish_next h with ⟨v, s', hv, hk⟩ | ⟨info, s', c, hr, hc, rfl⟩
  · exact hdone v s' hv hk
  · obtain ⟨b, rfl⟩ := hx info s' hr
    exact .aborted b info (by simp [hi]) (by simp [hi]) hc

/-- A transaction presented directly completes, aborts the running command, or records its error. -/
theorem effect_of_runDirect {α : Type} {x : Tx α} {k : α → State → Res} (hi : Laws.setOf i = .wire)
    (hx : x.RaisesFrom s) (h : runDirect x k = .next t)
    (hdone : ∀ v s', x = .done v s' → k v s' = .next t → Effect s i t) : Effect s i t := by
  rcases runDirect_next h with ⟨v, s', hv, hk⟩ | ⟨info, s', c, hr, hb, hc, rfl⟩ | ⟨info, s', hr, hb, rfl⟩
  · exact hdone v s' hv hk
  · obtain ⟨b, rfl⟩ := hx info s' hr
    exact .aborted b info (by simp [hi]) (fun _ => hb) hc
  · obtain ⟨b, rfl⟩ := hx info s' hr
    exact .wireFailed b info hi hb

theorem effect_of_runWrite {a v : Byte} (hi : Laws.setOf i = .wire) (h : runWrite (writeRegisterTx a v s) = .next t) :
    Effect s i t := by
  refine effect_of_runDirect hi (writeRegisterTx_raisesFrom a v) h fun _ s' hv hk => ?_
  obtain ⟨-, -, rfl⟩ := writeRegisterTx_done hv
  cases hk
  exact .wireWritten _ hi

theorem effect_of_runRead {kind : XferKind} {a : Byte} {n : Nat} (hi : Laws.setOf i = .wire)
    (h : runRead (readTx kind a n s) = .next t) : Effect s i t := by
  refine effect_of_runDirect hi (readTx_raisesFrom kind a n) h fun d s' hv hk => ?_
  obtain ⟨-, -, -, -, rfl⟩ := readTx_done hv
  cases hk
  exact .wireRead _ d hi

theorem effect_of_runBurst {a : Byte} {n : Nat} (hi : Laws.setOf i = .wire) (h : runBurst a n s = .next t) :
    Effect s i t := by
  unfold runBurst at h
  split at h
  · exact effect_of_runRead hi h
  · cases h

theorem execBindSession_effect (h : execBindSession s = .next t) : Effect s .bindSession t := by
  refine effect_of_runDirect rfl bindTx_raisesFrom h fun _ s' hv hk => ?_
  obtain ⟨-, rfl⟩ := bindTx_done hv
  cases hk
  exact .wireBound _

/-! ## Host commands -/

theorem execReset_effect (h : execReset s = .next t) : Effect s .reset t := by
  obtain ⟨hb, hk⟩ := whenIdle_next h
  cases hk
  exact .resetAccepted hb

theorem execRefresh_effect (h : execRefresh s = .next t) : Effect s .refresh t := by
  obtain ⟨hb, hk⟩ := whenIdle_next h
  split at hk
  · rename_i hl
    cases hk
    exact .refreshAccepted hb hl
  · cases hk
    exact .notReady _ rfl hb

theorem effect_of_readSample {code : Byte} {e : Element} {x : Option F64}
    (hi : i = .readT ∨ i = .readP ∨ i = .readH) (h : whenIdle s (readSample code e x s) = .next t) :
    Effect s i t := by
  obtain ⟨hb, hk⟩ := whenIdle_next h
  rcases readSample_next hk with ⟨hv, v, -, rfl⟩ | ⟨-, rfl⟩
  · exact .returned code v hi hb hv
  · have hhost : Laws.setOf i = .host := by rcases hi with rfl | rfl | rfl <;> rfl
    exact .notReady code hhost hb

/-! ## Bus micro-operations -/

theorem execWr_effect {a v : Byte} (h : execWr a v s = .next t) : Effect s (.wr a v) t := by
  refine effect_of_finish rfl (writeRegisterTx_raisesFrom a v) h fun _ s' hv hk => ?_
  obtain ⟨-, -, rfl⟩ := writeRegisterTx_done hv
  obtain ⟨u, -, rfl⟩ := advance_next hk
  exact .wrote a v _ _

theorem execRd_effect {a : Byte} (h : execRd a s = .next t) : Effect s (.rd a) t := by
  refine effect_of_finish rfl (readTx_raisesFrom .read a 1) h fun d s' hv hk => ?_
  obtain ⟨-, -, -, -, rfl⟩ := readTx_done hv
  obtain ⟨u, -, rfl⟩ := advance_next hk
  exact .read a _ _ _

/-- A read transfer brings at most the bytes asked for (R89). -/
theorem readXfer_length_le (n : Nat) (b : Bus) : (Bus.readXfer n b).1.length ≤ n := by
  unfold Bus.readXfer
  split
  · exact (readBytes_length n _ _).le
  · exact List.length_take_le _ _

theorem execRdb_effect {a n : Byte} {buf : BufId} (h : execRdb a n buf s = .next t) :
    Effect s (.rdb a n buf) t := by
  unfold execRdb at h
  split at h
  · rename_i hwf
    refine effect_of_finish rfl (readTx_raisesFrom .burst a n.toNat) h fun d s' hv hk => ?_
    obtain ⟨-, -, -, hd, rfl⟩ := readTx_done hv
    obtain ⟨u, -, rfl⟩ := advance_next hk
    simp only [Instr.wellFormed, Bool.and_eq_true, decide_eq_true_eq] at hwf
    obtain ⟨-, hcap⟩ := hwf
    have hlen : d.length ≤ buf.capacity := hd ▸ (readXfer_length_le _ _).trans hcap
    have heffect := Effect.burst (s := s) a n buf (Bus.readXfer n.toNat (Bus.writeXfer [a] s.bus).2).2 d (u + 1) hlen
    cases buf <;> exact heffect
  · cases h

theorem execBind_effect (h : execBind s = .next t) : Effect s .bind t := by
  refine effect_of_finish rfl bindTx_raisesFrom h fun _ s' hv hk => ?_
  obtain ⟨-, rfl⟩ := bindTx_done hv
  obtain ⟨u, -, rfl⟩ := advance_next hk
  exact .bound _ _

/-! ## Control micro-operations -/

/-- An error a check raises, with no transfer, aborts the running command. -/
theorem effect_of_raiseError {info : ErrInfo} (hi : Laws.setOf i = .micro) (h : raiseError info s = .next t) :
    Effect s i t := by
  obtain ⟨c, hc, rfl⟩ := raiseError_next h
  exact .aborted s.bus info (by simp [hi]) (by simp [hi]) hc

theorem execChkid_effect {v : Byte} (h : execChkid v s = .next t) : Effect s (.chkid v) t := by
  obtain ⟨d, -, hk⟩ := need_next h
  split at hk
  · exact effect_of_raiseError rfl hk
  · obtain ⟨u, -, rfl⟩ := advance_next hk
    exact .passed _ (by simp)

theorem execPinit_effect (h : execPinit s = .next t) : Effect s .pinit t := by
  obtain ⟨u, -, rfl⟩ := advance_next h
  exact .pollInit _

theorem execPwait_effect (h : execPwait s = .next t) : Effect s .pwait t := by
  obtain ⟨n, -, hk⟩ := need_next h
  obtain ⟨u, -, rfl⟩ := advance_next hk
  exact .pollWait _ n _

theorem pollAgain_effect {m l d : Byte} (h : pollAgain m l d s = .next t) : Effect s (.bbusy m l) t := by
  unfold pollAgain at h
  split at h
  · cases h
    exact .passed l (by simp)
  · obtain ⟨n, -, hk⟩ := need_next h
    split at hk
    · exact effect_of_raiseError rfl hk
    · cases hk
      exact .passed l (by simp)

theorem execBbusy_effect {m l : Byte} (h : execBbusy m l s = .next t) : Effect s (.bbusy m l) t := by
  unfold execBbusy at h
  split at h
  · obtain ⟨d, -, hk⟩ := need_next h
    split at hk
    · obtain ⟨u, -, rfl⟩ := advance_next hk
      exact .passed _ (by simp)
    · exact pollAgain_effect hk
  · cases h

theorem execCall_effect {l : Byte} (h : execCall l s = .next t) : Effect s (.call l) t := by
  unfold execCall at h
  split at h
  · obtain ⟨u, -, hk⟩ := need_next h
    cases hk
    exact .called l _
  · cases h

theorem execRet_effect (h : execRet s = .next t) : Effect s .ret t := by
  obtain ⟨l, -, hk⟩ := need_next h
  cases hk
  exact .passed l (by simp)

theorem execSetst_effect {st : LifeState} (h : execSetst st s = .next t) : Effect s (.setst st) t := by
  obtain ⟨u, -, rfl⟩ := advance_next h
  exact .stateSet st _

/-! ## Calibration and compensation -/

theorem execPcal_effect (h : execPcal s = .next t) : Effect s .pcal t := by
  obtain ⟨c₁, -, hk₁⟩ := need_next h
  obtain ⟨c, -, hk⟩ := need_next hk₁
  obtain ⟨u, -, rfl⟩ := advance_next hk
  exact .calibrated c _

theorem execChkrsv_effect (h : execChkrsv s = .next t) : Effect s .chkrsv t := by
  obtain ⟨b2, -, hk₂⟩ := need_next h
  obtain ⟨b5, -, hk⟩ := need_next hk₂
  split at hk
  · exact effect_of_raiseError rfl hk
  · obtain ⟨u, -, rfl⟩ := advance_next hk
    exact .passed _ (by simp)

theorem execDecode_effect (h : execDecode s = .next t) : Effect s .decode t := by
  obtain ⟨b0, -, h⟩ := need_next h
  obtain ⟨b1, -, h⟩ := need_next h
  obtain ⟨b2, -, h⟩ := need_next h
  obtain ⟨b3, -, h⟩ := need_next h
  obtain ⟨b4, -, h⟩ := need_next h
  obtain ⟨b5, -, h⟩ := need_next h
  obtain ⟨b6, -, h⟩ := need_next h
  obtain ⟨b7, -, h⟩ := need_next h
  obtain ⟨u, -, rfl⟩ := advance_next h
  exact .decoded _ _ _ _

theorem execCompt_effect (h : execCompt s = .next t) : Effect s .compt t := by
  obtain ⟨raw, -, h⟩ := need_next h
  obtain ⟨c, -, h⟩ := need_next h
  obtain ⟨u, -, rfl⟩ := advance_next h
  exact .temperature _ _ _ _

theorem execCompp_effect (h : execCompp s = .next t) : Effect s .compp t := by
  obtain ⟨-, h⟩ := needTfineOf_next h
  obtain ⟨f, -, h⟩ := need_next h
  obtain ⟨raw, -, h⟩ := need_next h
  obtain ⟨c, -, h⟩ := need_next h
  obtain ⟨u, -, rfl⟩ := advance_next h
  exact .pressure _ _ _

theorem execComph_effect (h : execComph s = .next t) : Effect s .comph t := by
  obtain ⟨-, h⟩ := needTfineOf_next h
  obtain ⟨f, -, h⟩ := need_next h
  obtain ⟨raw, -, h⟩ := need_next h
  obtain ⟨c, -, h⟩ := need_next h
  obtain ⟨u, -, rfl⟩ := advance_next h
  exact .humidity f raw c _ _

theorem execCommit_effect (h : execCommit s = .next t) : Effect s .commit t := by
  obtain ⟨x, hx, h⟩ := need_next h
  obtain ⟨y, hy, h⟩ := need_next h
  obtain ⟨z, hz, h⟩ := need_next h
  obtain ⟨u, -, rfl⟩ := advance_next h
  exact .committed x y z _ hx hy hz

/-- Every next state of an instruction is one of its effects. -/
theorem exec_effect (h : exec i s = .next t) : Effect s i t := by
  cases i with
  | reset => exact execReset_effect h
  | refresh => exact execRefresh_effect h
  | readT | readP | readH => exact effect_of_readSample (by simp) h
  | writeRegister | wrSoftReset | wrCtrlHum | wrCtrlMeasCfg | wrConfig | wrCtrlMeasForced =>
    exact effect_of_runWrite rfl h
  | readRegister | rdChipId | rdStatus => exact effect_of_runRead rfl h
  | readBlock | rdCal1 | rdCal2 | rdData => exact effect_of_runBurst rfl h
  | bindSession => exact execBindSession_effect h
  | endCmd => cases h; exact .ended
  | bind => exact execBind_effect h
  | wr => exact execWr_effect h
  | rd => exact execRd_effect h
  | rdb => exact execRdb_effect h
  | chkid => exact execChkid_effect h
  | pinit => exact execPinit_effect h
  | pwait => exact execPwait_effect h
  | bbusy => exact execBbusy_effect h
  | call => exact execCall_effect h
  | ret => exact execRet_effect h
  | setst => exact execSetst_effect h
  | pcal => exact execPcal_effect h
  | chkrsv => exact execChkrsv_effect h
  | decode => exact execDecode_effect h
  | compt => exact execCompt_effect h
  | compp => exact execCompp_effect h
  | comph => exact execComph_effect h
  | commit => exact execCommit_effect h

/-! ## The step -/

theorem whenZero_eq_some {z : Bool} {j : Instr} (h : whenZero z j = some i) : i = j := by
  unfold whenZero at h
  split at h <;> cases h
  rfl

/-- The micro-ROM decodes to micro-operations alone. -/
theorem setOf_decodeFields {op a b c : Byte} (h : decodeFields op a b c = some i) : Laws.setOf i = .micro := by
  unfold decodeFields at h
  split at h
  case h_5 =>
    obtain ⟨buf, -, rfl⟩ := Option.map_eq_some_iff.1 h
    rfl
  case h_12 =>
    obtain ⟨st, -, hst⟩ := Option.bind_eq_some_iff.1 h
    rw [whenZero_eq_some hst]
    rfl
  case h_20 => cases h
  all_goals
    rw [whenZero_eq_some h]
    rfl

theorem setOf_decodeMicro {w : MicroWord} (h : decodeMicro w = .ok i) : Laws.setOf i = .micro := by
  unfold decodeMicro at h
  split at h
  · rename_i j hj
    split at h <;> cases h
    exact setOf_decodeFields hj
  · cases h

/-- A host code is a host command. -/
theorem setOf_decodeHost {code : Byte} (h : decodeHost code = .ok i) : Laws.setOf i = .host := by
  unfold decodeHost at h
  split at h <;> cases h <;> rfl

theorem setOf_decodeFrames {frames : List Frame} (h : decodeFrames frames = some i) : Laws.setOf i = .wire := by
  unfold decodeFrames at h
  split at h
  · cases h; rfl
  · cases h; rfl
  · split_ifs at h <;> cases h <;> rfl
  · cases h

/-- Naming a transaction gives a wire transaction for a wire transaction. -/
theorem setOf_nameWire (p : BcbConfig) (h : Laws.setOf i = .wire) : Laws.setOf (nameWire p i) = .wire := by
  unfold nameWire
  split
  · split_ifs <;> rfl
  · split_ifs <;> rfl
  · split_ifs <;> rfl
  · exact h

theorem setOf_decodeWire {p : BcbConfig} {frames : List Frame} (h : decodeWire p frames = .ok i) :
    Laws.setOf i = .wire := by
  unfold decodeWire at h
  split at h
  · rename_i j hj
    cases h
    exact setOf_nameWire p (setOf_decodeFrames hj)
  · cases h

/-- What the fetch hands over: the state with its queues moved on, and a micro-operation only while BUSY = 1. -/
theorem fetch_run {s' : State} {w : Option (Byte × Byte)} (h : fetch s = .run i s' w) :
    (∃ host wire, s' = { s with hostQueue := host, wireQueue := wire }) ∧
      (Laws.setOf i = .micro → s.busy = true) := by
  unfold fetch at h
  split at h
  · split at h
    · unfold fetchWire at h
      split at h <;> cases h
      rename_i hi
      exact ⟨⟨_, _, rfl⟩, by simp [setOf_decodeWire hi]⟩
    · split at h
      · rename_i hb
        unfold fetchMicro at h
        split at h
        · cases h
        · split at h
          · cases h
          · split at h <;> cases h
            exact ⟨⟨_, _, rfl⟩, fun _ => hb⟩
      · unfold fetchHost at h
        split at h
        · cases h
        · split at h <;> cases h
          rename_i hi
          exact ⟨⟨_, _, rfl⟩, by simp [setOf_decodeHost hi]⟩
  · cases h

theorem observe_eq (b t : State) (w : Option (Byte × Byte)) :
    ∃ log, observe b w t = { t with observerLog := log } := by
  unfold observe
  split
  · exact ⟨_, rfl⟩
  · split
    · exact ⟨_, rfl⟩
    · exact ⟨_, rfl⟩

/-- A step that runs an instruction: an effect of the instruction on the state with its queues moved on, and the
observer's log. -/
theorem step_effect {s' : State} {w : Option (Byte × Byte)} (hf : fetch s = .run i s' w) (h : step s = .next t) :
    ∃ host wire t' log, Effect { s with hostQueue := host, wireQueue := wire } i t' ∧
      t = { t' with observerLog := log } := by
  obtain ⟨⟨host, wire, rfl⟩, -⟩ := fetch_run hf
  rw [step, hf] at h
  obtain ⟨t', ht', rfl⟩ := observed_next h
  obtain ⟨log, hlog⟩ := observe_eq _ t' w
  exact ⟨host, wire, t', log, exec_effect ht', hlog⟩

/-- A step that runs no instruction leaves the state as it is. -/
theorem step_next_cases (h : step s = .next t) : t = s ∨ ∃ i s' w, fetch s = .run i s' w := by
  unfold step at h
  split at h
  · rename_i i s' w hf
    exact .inr ⟨i, s', w, hf⟩
  · cases h
    exact .inl rfl
  · cases h
  · cases h

end Sys2Proof.Machine
end
section
/-! Invariants and writers read off the effects of a step: the buffers keep their sizes (10_state.md R34), a humidity
stays in [0, 100] (R40), and each state element has its own writers (R30, R32 to R47). -/

namespace Sys2Proof.Machine

/-! ## Invariants kept by every step -/

/-- A property kept by every effect, and blind to the queues and to the observer's log, is kept by every step. -/
theorem step_keeps {P : State → Prop}
    (hqueues : ∀ s host wire, P s → P { s with hostQueue := host, wireQueue := wire })
    (hlog : ∀ s log, P s → P { s with observerLog := log })
    (heffect : ∀ s i t, Effect s i t → P s → P t) {s t : State} (hs : P s) (h : step s = .next t) : P t := by
  rcases step_next_cases h with rfl | ⟨i, s', w, hf⟩
  · exact hs
  · obtain ⟨host, wire, t', log, he, rfl⟩ := step_effect hf h
    exact hlog t' log (heffect _ i t' he (hqueues s host wire hs))

/-- A burst that fits the buffer leaves its size (R180). -/
theorem length_bufferAfter {buf : List (Option Byte)} {d : List Byte} (h : d.length ≤ buf.length) :
    (bufferAfter buf d).length = buf.length := by
  simp [bufferAfter, h]

theorem buffersSized_putBurst {s : State} {buf : BufId} {d : List Byte} (hs : buffersSized s)
    (hd : d.length ≤ buf.capacity) : buffersSized (s.putBurst buf d) := by
  obtain ⟨h1, h2, h3⟩ := hs
  cases buf with
  | buf1 => exact ⟨(length_bufferAfter (h1 ▸ hd)).trans h1, h2, h3⟩
  | buf2 => exact ⟨h1, (length_bufferAfter (h2 ▸ hd)).trans h2, h3⟩
  | bufd => exact ⟨h1, h2, (length_bufferAfter (h3 ▸ hd)).trans h3⟩

theorem Effect.buffersSized {s t : State} {i : Instr} (h : Effect s i t) (hs : buffersSized s) :
    buffersSized t := by
  cases h with
  | burst _ _ _ _ _ _ hn => exact buffersSized_putBurst (s := { s with bus := _, upc := _ }) hs hn
  | _ => exact hs

/-- Settles O48: RDB alone writes a buffer, and its burst fits. -/
theorem bufferSizesKept : Obligations.BufferSizesKept :=
  ⟨fun _ => ⟨rfl, rfl, rfl⟩,
    fun _ _ => step_keeps (fun _ _ _ hs => hs) (fun _ _ hs => hs) fun _ _ _ he => he.buffersSized⟩

theorem Effect.humidityInRange {s t : State} {i : Instr} (h : Effect s i t) (hs : humidityInRange s) :
    humidityInRange t := by
  obtain ⟨hnew, hsample⟩ := hs
  cases h with
  | humidity f raw c =>
    refine ⟨fun x hx => ?_, hsample⟩
    cases hx
    exact humidityOk_humResult s.cfg f raw c
  | committed _ _ _ _ _ _ hh =>
    refine ⟨hnew, fun x hx => ?_⟩
    cases hx
    exact hnew _ hh
  | burst _ _ buf => cases buf <;> exact ⟨hnew, hsample⟩
  | _ => exact ⟨hnew, hsample⟩

/-- Settles O49: COMPH's result is in range under every variant, and COMMIT takes over one that is. -/
theorem humidityStaysInRange : Obligations.HumidityStaysInRange :=
  ⟨fun _ => ⟨fun _ h => (nomatch h), fun _ h => (nomatch h)⟩,
    fun _ _ => step_keeps (fun _ _ _ hs => hs) (fun _ _ hs => hs) fun _ _ _ he => he.humidityInRange⟩

end Sys2Proof.Machine
end
section
/-! The writers of each state element (10_state.md R30, R32 to R47), one lemma per element or group that is written
together: the effects that write it are named, and every other effect leaves it as it was. -/

namespace Sys2Proof.Machine

theorem buffer_putBurst_other (s : State) (d : List Byte) {b b' : BufId} (h : b ≠ b') :
    (s.putBurst b d).buffer b' = s.buffer b' := by
  cases b <;> cases b' <;> simp [State.buffer] at h ⊢

section
variable {s t : State} {i : Instr} (h : Effect s i t)
include h

/-! ## Receive registers, calibration, datapath -/

theorem Effect.rdata_writer (hne : t.rdata ≠ s.rdata) : ∃ a, i = .rd a := by
  cases h with
  | read a => exact ⟨a, rfl⟩
  | _ => simp at hne

theorem Effect.buffer_writer {buf : BufId} (hne : t.buffer buf ≠ s.buffer buf) : ∃ a n, i = .rdb a n buf := by
  cases h with
  | burst a n buf' =>
    rcases eq_or_ne buf' buf with rfl | hbuf
    · exact ⟨a, n, rfl⟩
    · exact absurd (buffer_putBurst_other _ _ hbuf) hne
  | _ => exact absurd rfl hne

theorem Effect.cal_writer (hne : t.cal ≠ s.cal) : i = .pcal := by
  cases h with
  | calibrated => rfl
  | _ => simp at hne

theorem Effect.calValid_setter (ht : t.calValid = true) (hs : s.calValid = false) : i = .pcal := by
  cases h with
  | calibrated => rfl
  | _ => simp [hs] at ht

theorem Effect.raw_writer
    (hne : t.rawP ≠ s.rawP ∨ t.rawT ≠ s.rawT ∨ t.rawH ≠ s.rawH ∨ t.rawGen ≠ s.rawGen) : i = .decode := by
  cases h with
  | decoded => rfl
  | _ => simp at hne

theorem Effect.temperature_writer
    (hne : t.tfine ≠ s.tfine ∨ t.tfineGen ≠ s.tfineGen ∨ t.tNew ≠ s.tNew ∨ t.tInt ≠ s.tInt) : i = .compt := by
  cases h with
  | temperature => rfl
  | _ => simp at hne

theorem Effect.pressure_writer (hne : t.pNew ≠ s.pNew ∨ t.pInt ≠ s.pInt) : i = .compp := by
  cases h with
  | pressure => rfl
  | _ => simp at hne

theorem Effect.humidity_writer (hne : t.hNew ≠ s.hNew ∨ t.hInt ≠ s.hInt) : i = .comph := by
  cases h with
  | humidity => rfl
  | _ => simp at hne

theorem Effect.sample_writer (hne : t.sampleT ≠ s.sampleT ∨ t.sampleP ≠ s.sampleP ∨ t.sampleH ≠ s.sampleH) :
    i = .commit := by
  cases h with
  | committed => rfl
  | _ => simp at hne

theorem Effect.sampleValid_setter (ht : t.sampleValid = true) (hs : s.sampleValid = false) : i = .commit := by
  cases h with
  | committed => rfl
  | _ => simp [hs] at ht

/-! ## Sequencer and session -/

theorem Effect.link_writer (hne : t.link ≠ s.link) : ∃ l, i = .call l := by
  cases h with
  | called l => exact ⟨l, rfl⟩
  | _ => simp at hne

theorem Effect.pollcnt_writer (hne : t.pollcnt ≠ s.pollcnt) : i = .pinit ∨ i = .pwait := by
  cases h with
  | pollInit => exact .inl rfl
  | pollWait => exact .inr rfl
  | _ => simp at hne

theorem Effect.cmd_writer (hne : t.cmd ≠ s.cmd) : i = .reset ∨ i = .refresh := by
  cases h with
  | resetAccepted => exact .inl rfl
  | refreshAccepted => exact .inr rfl
  | _ => simp at hne

theorem Effect.sessionBound_setter (ht : t.sessionBound = true) (hs : s.sessionBound = false) :
    i = .bind ∨ i = .bindSession := by
  cases h with
  | bound => exact .inl rfl
  | wireBound => exact .inr rfl
  | _ => simp [hs] at ht

theorem Effect.hostReturns_writer (hne : t.hostReturns ≠ s.hostReturns) : i = .readT ∨ i = .readP ∨ i = .readH := by
  cases h with
  | returned _ _ hi => exact hi
  | _ => simp at hne

/-! ## Errors -/

theorem Effect.err_writer (hne : t.err ≠ s.err) : i = .endCmd ∨ i = .readT ∨ i = .readP ∨ i = .readH ∨
    ∃ info, t.errInfo = some info ∧ t.err = errKindOf info := by
  cases h with
  | ended => exact .inl rfl
  | returned _ _ hi => exact .inr (hi.imp_right (.imp_right .inl))
  | notReady | wireFailed | refreshAborted | resetAborted => exact .inr (.inr (.inr (.inr ⟨_, rfl, rfl⟩)))
  | _ => simp at hne

theorem Effect.errInfo_writer (hne : t.errInfo ≠ s.errInfo) :
    ∃ info, t.errInfo = some info ∧ t.err = errKindOf info := by
  cases h with
  | notReady | wireFailed | refreshAborted | resetAborted => exact ⟨_, rfl, rfl⟩
  | _ => simp at hne

end

/-! ## What an abort changes

A micro-operation runs only while BUSY = 1, so every abort ends a running command. -/

theorem errKindOf_ne_none (info : ErrInfo) : errKindOf info ≠ .none := by cases info <;> simp [errKindOf]

theorem abortedStep_abortWith {s : State} (info : ErrInfo) (c : HostCmd) (b : Bus) (hb : s.busy = true) :
    abortedStep s (abortWith info c { s with bus := b }) := by
  cases c <;> exact ⟨hb, rfl, info, rfl, rfl, errKindOf_ne_none info⟩

/-- A command runs where an instruction that is no host command aborts one. -/
theorem busy_of_aborting {s : State} {i : Instr} (hmicro : Laws.setOf i = .micro → s.busy = true)
    (hi : Laws.setOf i ≠ .host) (hb : Laws.setOf i = .wire → s.busy = true) : s.busy = true := by
  cases hset : Laws.setOf i with
  | host => exact absurd hset hi
  | wire => exact hb hset
  | micro => exact hmicro hset

section
variable {s t : State} {i : Instr} (h : Effect s i t) (hmicro : Laws.setOf i = .micro → s.busy = true)
include h hmicro

theorem Effect.lifeState_writer (hne : t.lifeState ≠ s.lifeState) : (∃ st, i = .setst st) ∨ abortedStep s t := by
  cases h with
  | stateSet st => exact .inl ⟨st, rfl⟩
  | refreshAborted _ _ hi hb => exact .inr (abortedStep_abortWith _ _ _ (busy_of_aborting hmicro hi hb))
  | resetAborted _ _ hi hb => exact .inr (abortedStep_abortWith _ _ _ (busy_of_aborting hmicro hi hb))
  | _ => simp at hne

theorem Effect.busy_writer (hne : t.busy ≠ s.busy) :
    i = .reset ∨ i = .refresh ∨ i = .endCmd ∨ abortedStep s t := by
  cases h with
  | resetAccepted => exact .inl rfl
  | refreshAccepted => exact .inr (.inl rfl)
  | ended => exact .inr (.inr (.inl rfl))
  | refreshAborted _ _ hi hb =>
    exact .inr (.inr (.inr (abortedStep_abortWith _ _ _ (busy_of_aborting hmicro hi hb))))
  | resetAborted _ _ hi hb =>
    exact .inr (.inr (.inr (abortedStep_abortWith _ _ _ (busy_of_aborting hmicro hi hb))))
  | _ => simp at hne

theorem Effect.upc_writer (hne : t.upc ≠ s.upc) :
    i = .reset ∨ i = .refresh ∨ (s.busy = true ∧ t.busy = true ∧ i ≠ .endCmd) := by
  cases h with
  | resetAccepted => exact .inl rfl
  | refreshAccepted => exact .inr (.inl rfl)
  | passed _ hi =>
    rcases hi with rfl | rfl | ⟨v, rfl⟩ | ⟨m, l, rfl⟩
    all_goals exact .inr (.inr ⟨hmicro rfl, hmicro rfl, nofun⟩)
  | burst => exact .inr (.inr ⟨hmicro rfl, (putBurst_busy _ _ _).trans (hmicro rfl), nofun⟩)
  | bound | wrote | read | pollInit | pollWait | called | stateSet | calibrated | decoded | temperature |
      pressure | humidity | committed =>
    exact .inr (.inr ⟨hmicro rfl, hmicro rfl, nofun⟩)
  | _ => simp at hne

/-- Only the abort of a RESET clears a valid bit or the session (R395). -/
theorem Effect.valid_clearer
    (hclear : (s.calValid = true ∧ t.calValid = false) ∨ (s.sampleValid = true ∧ t.sampleValid = false) ∨
      (s.sessionBound = true ∧ t.sessionBound = false)) :
    abortedStep s t ∧ s.cmd = some .reset ∧ t.lifeState = .uninit := by
  cases h with
  | resetAborted _ _ hi hb hc =>
    exact ⟨abortedStep_abortWith _ _ _ (busy_of_aborting hmicro hi hb), hc, rfl⟩
  | _ => simp_all

end

/-- Settles O50: the effects of a step name the writers of each element. -/
theorem eachElementHasItsWriters : Obligations.EachElementHasItsWriters := by
  intro s t s' i w hf h
  have hmicro := (fetch_run hf).2
  obtain ⟨host, wire, t', log, he, rfl⟩ := step_effect hf h
  exact ⟨he.rdata_writer, he.buffer_writer (buf := .buf1), he.buffer_writer (buf := .buf2),
    he.buffer_writer (buf := .bufd), he.cal_writer, he.calValid_setter,
    he.raw_writer, he.temperature_writer, he.pressure_writer, he.humidity_writer, he.sample_writer,
    he.sampleValid_setter, he.link_writer, he.pollcnt_writer, he.cmd_writer, he.sessionBound_setter,
    he.lifeState_writer hmicro, he.busy_writer hmicro, he.upc_writer hmicro, he.err_writer, he.errInfo_writer,
    he.valid_clearer hmicro, he.hostReturns_writer⟩

end Sys2Proof.Machine
end
section
/-! Single facts about the state: the status word (10_state.md R44), the faults of an unbound session and of a TFINE of
another sample (R38, R47), and the sensor fixture (R49 to R57). -/

namespace Sys2Proof.Machine

/-! ## HSTS (R42, R44, R45) -/

/-- The position of each field of HSTS, whatever the fields hold. -/
theorem hsts_fields (calValid sampleValid busy : Bool) (err life : BitVec 3) :
    let w := (0 : BitVec 7) ++ BitVec.ofBool calValid ++ BitVec.ofBool sampleValid ++ err ++ BitVec.ofBool busy ++ life
    w.extractLsb' 0 3 = life ∧ w.getLsbD 3 = busy ∧ w.extractLsb' 4 3 = err ∧ w.getLsbD 7 = sampleValid ∧
      w.getLsbD 8 = calValid ∧ w.extractLsb' 9 7 = 0 := by
  revert calValid sampleValid busy err life
  decide

/-- Settles O25: each field is where the concatenation puts it. -/
theorem hstsFields : Obligations.HstsFields := by
  refine ⟨fun s => hsts_fields s.calValid s.sampleValid s.busy (errCode s.err) (lifeCode s.lifeState), rfl, ?_,
    rfl, rfl, rfl, rfl, rfl, rfl, rfl, rfl, rfl, rfl, rfl⟩
  intro e
  cases e <;> decide

/-! ## Faults -/

theorem writeRegisterTx_unbound {s : State} (h : s.sessionBound = false) (a v : Byte) :
    writeRegisterTx a v s = .faulted .unbound := by
  simp [writeRegisterTx, h]

theorem readTx_unbound {s : State} (h : s.sessionBound = false) (kind : XferKind) (a : Byte) (n : Nat) :
    readTx kind a n s = .faulted .unbound := by
  simp [readTx, h]

theorem runBurst_unbound {s : State} {n : Nat} (h : s.sessionBound = false) (hn : 1 ≤ n ∧ n ≤ 32) (a : Byte) :
    runBurst a n s = .fault .unbound := by
  rw [runBurst, if_pos hn, readBlockTx, readTx_unbound h]
  rfl

/-- Settles O18: a transaction looks at SESSION_BOUND before it moves a byte. -/
theorem unboundTransactionsFault : Obligations.UnboundTransactionsFault := by
  intro s i a v n hs hi
  have hwrite (a v : Byte) : runWrite (writeRegisterTx a v s) = .fault .unbound := by
    rw [writeRegisterTx_unbound hs]
    rfl
  have hread (a : Byte) : runRead (readRegisterTx a s) = .fault .unbound := by
    rw [readRegisterTx, readTx_unbound hs]
    rfl
  rcases hi with hw | hr | hb | rfl | rfl | ⟨m, b, rfl, hwf⟩
  · rcases hw with rfl | ⟨rfl, -⟩ | ⟨rfl, -⟩ | ⟨rfl, -⟩ | ⟨rfl, -⟩ | ⟨rfl, -⟩
    all_goals exact hwrite _ _
  · rcases hr with rfl | ⟨rfl, -⟩ | ⟨rfl, -⟩
    all_goals exact hread _
  · obtain ⟨hlow, hhigh, rfl | ⟨rfl, -, rfl⟩ | ⟨rfl, -, rfl⟩ | ⟨rfl, -, rfl⟩⟩ := hb
    all_goals exact runBurst_unbound hs ⟨hlow, hhigh⟩ _
  · rw [exec, execWr, writeRegisterTx_unbound hs]
    rfl
  · rw [exec, execRd, readRegisterTx, readTx_unbound hs]
    rfl
  · rw [exec, execRdb, if_pos hwf, readBlockTx, readTx_unbound hs]
    rfl

/-- Settles O41: the generations are compared before an operand is read. -/
theorem tfineMismatchFaults : Obligations.TfineMismatchFaults := by
  intro s hgen
  have hfault (k : Res) : needTfineOf s k = .fault .tfineMismatch := if_neg hgen
  exact ⟨hfault _, hfault _⟩

/-! ## The sensor fixture -/

/-- A read shows the registers one after another, and leaves the pointer behind the last (R57). -/
theorem readBytes_of_noWrap (x : Sensor) {a : Byte} {n : Nat} (d : Nat) (hn : a.toNat + n ≤ 255) :
    (∀ i < n, (Sensor.readBytes n d { x with pointer := a }).1[i]? =
      some (Sensor.register x (a + BitVec.ofNat 8 i) (Config.freeByte (d + 2 * i)))) ∧
    (Sensor.readBytes n d { x with pointer := a }).2 = { x with pointer := a + BitVec.ofNat 8 n } := by
  induction n generalizing a d with
  | zero => exact ⟨fun _ hi => absurd hi (Nat.not_lt_zero _), by simp [Sensor.readBytes]⟩
  | succ n ih =>
    have ha : a ≠ 0xFF := by bv_omega
    obtain ⟨hbytes, hpointer⟩ := ih (a := a + 1) (d + 2) (by bv_omega)
    simp only [Sensor.readBytes, if_neg ha, hpointer]
    refine ⟨fun i hi => ?_, ?_⟩
    · cases i with
      | zero => simp [Sensor.register, Sensor.status]
      | succ i =>
        have haddr : a + 1 + BitVec.ofNat 8 i = a + BitVec.ofNat 8 (i + 1) := by bv_omega
        rw [List.getElem?_cons_succ, hbytes i (by omega), haddr, show d + 2 + 2 * i = d + 2 * (i + 1) by omega]
    · congr 1
      bv_omega

/-! A write of a register, by its address (R51, R52, R54). -/

theorem writeRegister_reset (d : Nat) (x : Sensor) (v : Byte) :
    Sensor.writeRegister d x 0xE0 v = if v = 0xB6 then some (Sensor.powerOn x) else some x := rfl

theorem writeRegister_ctrlHum (d : Nat) (x : Sensor) (v : Byte) :
    Sensor.writeRegister d x 0xF2 v = if v &&& 0xF8 = 0 then some { x with ctrlHum := v } else none := rfl

theorem writeRegister_ctrlMeas_forced (d : Nat) (x : Sensor) {v : Byte} (hv : ctrlMeasMode v = .forced) :
    Sensor.writeRegister d x 0xF4 v =
      some (Sensor.startConversion d { x with ctrlMeas := v, osrsH := ctrlHumOsrsH x.ctrlHum }) := by
  simp [Sensor.writeRegister, hv]

theorem startConversion_of_pos (d : Nat) {x : Sensor} (h : 0 < x.convTime) :
    Sensor.startConversion d x = { x with convLeft := x.convTime } := if_neg h.ne'

theorem ctrlMeasMode_forced (t p : BitVec 3) : ctrlMeasMode (ctrlMeasOf t p 0b01) = .forced := by
  revert t p
  decide

theorem ctrlHumOf_reserved (h : BitVec 3) : ctrlHumOf h &&& 0xF8 = 0 := by
  revert h
  decide

/-- Settles O60: a read steps through the registers, and each write is that of its register. -/
theorem sensorFixtureRegisters : Obligations.SensorFixtureRegisters := by
  refine ⟨fun x a n d i hn hi => ?_, fun _ _ => rfl, fun x d v hv => ?_, fun x d h => ?_, fun x d t p hconv => ?_⟩
  · obtain ⟨hbytes, hpointer⟩ := readBytes_of_noWrap x d hn
    exact ⟨rfl, hbytes i hi, hpointer⟩
  · rw [writeRegister_reset, if_neg hv]
  · rw [writeRegister_ctrlHum, if_pos (ctrlHumOf_reserved h)]
  · rw [writeRegister_ctrlMeas_forced d x (ctrlMeasMode_forced t p)]
    exact congrArg some (startConversion_of_pos d hconv)

end Sys2Proof.Machine
end
section
/-! Power-up and unwritten elements (10_state.md R31, R59): what each instruction reads, and in which order. -/

namespace Sys2Proof.Machine

/-- A read of an unwritten element, whatever was to follow (R31). -/
theorem need_of_eq_none {α : Type} {e : Element} {x : Option α} {k : α → Res} (h : x = none) :
    need e x k = .fault (.unwrittenRead e) := by
  rw [h, need_none]

/-- A read of a written element, when what follows faults. -/
theorem need_fault_of_isSome {α : Type} {e : Element} {x : Option α} {k : α → Res} {f : Fault}
    (h : x.isSome = true) (hk : ∀ v, k v = .fault f) : need e x k = .fault f := by
  obtain ⟨v, rfl⟩ := Option.isSome_iff_exists.1 h
  exact hk v

/-- Reading an element faults, naming it, if it is unwritten or what follows its read does so. -/
theorem need_unwritten {α : Type} {e : Element} {x : Option α} {k : α → Res}
    (hk : ∀ v, x = some v → k v = .fault (.unwrittenRead e)) : need e x k = .fault (.unwrittenRead e) := by
  cases x with
  | none => rfl
  | some v => exact hk v rfl

/-! ## The parse of the calibration blocks (R200 to R207) -/

theorem isSome_le16At (b : List (Option Byte)) (i : Nat) :
    (le16At b i).isSome = ((byteAt b i).isSome && (byteAt b (i + 1)).isSome) := by
  unfold le16At
  cases byteAt b i <;> cases byteAt b (i + 1) <;> rfl

/-- `parseBlock1` reads twelve 16-bit words and `dig_H1`. -/
theorem isSome_parseBlock1_iff_words (b : List (Option Byte)) (c : Cal) :
    (parseBlock1 b c).isSome = true ↔
      (∀ k < 12, (le16At b (2 * k)).isSome = true) ∧ (byteAt b 25).isSome = true := by
  simp only [Nat.forall_lt_succ_right, Nat.not_lt_zero, IsEmpty.forall_iff, implies_true, true_and]
  simp [parseBlock1, parseT, parseP, parseH1, Option.isSome_iff_exists, Option.bind_eq_some_iff, and_assoc]

/-- `parseBlock1` reads every byte of block 1 but byte 24. -/
theorem isSome_parseBlock1_iff (b : List (Option Byte)) (c : Cal) :
    (parseBlock1 b c).isSome = true ↔ ∀ i < 26, i ≠ 24 → (byteAt b i).isSome = true := by
  simp only [isSome_parseBlock1_iff_words, isSome_le16At, Bool.and_eq_true]
  constructor
  · rintro ⟨hwords, h25⟩ i hi hne
    obtain ⟨k, rfl | rfl⟩ := Nat.even_or_odd' i
    · exact (hwords k (by omega)).1
    · rcases Nat.lt_or_ge k 12 with hk | hk
      · exact (hwords k hk).2
      · rwa [show 2 * k + 1 = 25 by omega]
  · intro h
    exact ⟨fun k hk => ⟨h _ (by omega) (by omega), h _ (by omega) (by omega)⟩, h 25 (by omega) (by omega)⟩

/-- The bytes of block 2 a layout reads (R206, R207). -/
def block2Length : H45Layout → Nat
  | .nibble12 => 7
  | .word16 => 8

theorem seven_le_block2Length (layout : H45Layout) : 7 ≤ block2Length layout := by
  cases layout <;> decide

theorem isSome_parseBlock2_iff (layout : H45Layout) (b : List (Option Byte)) (c : Cal) :
    (parseBlock2 layout b c).isSome = true ↔ ∀ i < block2Length layout, (byteAt b i).isSome = true := by
  cases layout
  all_goals
    simp only [block2Length, Nat.forall_lt_succ_right, Nat.not_lt_zero, IsEmpty.forall_iff, implies_true,
      true_and]
    simp [parseBlock2, parseH23, parseNibble12, parseWord16, le16At, Option.isSome_iff_exists,
      Option.bind_eq_some_iff, and_assoc]

/-! ## The faults -/

theorem execPcal_buf1_unwritten {s : State} {i : Nat} (hi : i < 26) (hne : i ≠ 24) (h : byteAt s.buf1 i = none) :
    execPcal s = .fault (.unwrittenRead .buf1) := by
  refine need_of_eq_none (Option.not_isSome_iff_eq_none.1 fun hparse => ?_)
  simpa [h] using (isSome_parseBlock1_iff _ _).1 hparse i hi hne

theorem execPcal_buf2_unwritten {s : State} {i : Nat} (h1 : writtenUpTo 26 s.buf1)
    (hi : i < block2Length s.cfg.h45Layout) (h : byteAt s.buf2 i = none) :
    execPcal s = .fault (.unwrittenRead .buf2) := by
  refine need_fault_of_isSome ((isSome_parseBlock1_iff _ _).2 fun j hj _ => h1 j hj) fun c => ?_
  refine need_of_eq_none (Option.not_isSome_iff_eq_none.1 fun hparse => ?_)
  simpa [h] using (isSome_parseBlock2_iff _ _ _).1 hparse i hi

/-- DECODE reads all eight bytes of the burst: one that is unwritten is met. -/
theorem execDecode_unwritten {s : State} {i : Nat} (hi : i < 8) (h : byteAt s.bufd i = none) :
    execDecode s = .fault (.unwrittenRead .bufd) := by
  refine need_unwritten fun b0 h0 => need_unwritten fun b1 h1 => need_unwritten fun b2 h2 =>
    need_unwritten fun b3 h3 => need_unwritten fun b4 h4 => need_unwritten fun b5 h5 =>
    need_unwritten fun b6 h6 => need_unwritten fun b7 h7 => ?_
  interval_cases i
  all_goals simp_all

theorem execChkrsv_unwritten {s : State} {i : Nat} (hi : i = 2 ∨ i = 5) (h : byteAt s.bufd i = none) :
    execChkrsv s = .fault (.unwrittenRead .bufd) := by
  refine need_unwritten fun b2 h2 => need_unwritten fun b5 h5 => ?_
  rcases hi with rfl | rfl
  all_goals simp_all

theorem execBbusy_legal {m l : Byte} (hl : l ≤ 0x2E) (s : State) :
    execBbusy m l s = need .rdata s.rdata fun d => if d &&& m = 0 then advance s else pollAgain m l d s :=
  if_pos (decide_eq_true hl)

theorem execBbusy_pollcnt_unwritten {s : State} {m l d : Byte} {n : ℕ+} (hl : l ≤ 0x2E) (hd : s.rdata = some d)
    (hm : d &&& m ≠ 0) (hlimit : s.cfg.pollLimit = some n) (h : s.pollcnt = none) :
    execBbusy m l s = .fault (.unwrittenRead .pollcnt) := by
  rw [execBbusy_legal hl, hd, need_some, if_neg hm, pollAgain, hlimit]
  exact need_of_eq_none h

/-- COMPP and COMPH go on to their operands where TFINE is of the same sample (R38). -/
theorem needTfineOf_eq {s : State} (h : s.tfineGen = s.rawGen) (k : Res) : needTfineOf s k = k := if_pos h

theorem hsts_powerUp (p : BcbConfig) : State.hsts (State.powerUp p) = 0x0000 := by
  simp [State.hsts, State.powerUp, errCode, lifeCode]

/-- Settles O1: power-up is the reset table, and the unwritten element is the first read that does not succeed. -/
theorem powerUpState : Obligations.PowerUpState := by
  refine ⟨fun p => ?_, fun s hupc => ⟨need_of_eq_none hupc, need_of_eq_none hupc⟩,
    fun s hlink => need_of_eq_none hlink, fun s u _ hpoll => need_of_eq_none hpoll,
    fun s m l d n hl hd hm hlimit hpoll => execBbusy_pollcnt_unwritten hl hd hm hlimit hpoll,
    fun s v m l u _ hl hrdata => ⟨need_of_eq_none hrdata, fun _ => ?_⟩,
    fun s u i _ hi hne hbuf _ => execPcal_buf1_unwritten hi hne hbuf,
    fun s u i _ h1 hbuf hi => execPcal_buf2_unwritten h1 ?_ hbuf,
    fun s u i _ hi hbuf => ⟨execDecode_unwritten hi hbuf, fun hi' => execChkrsv_unwritten hi' hbuf⟩,
    fun s u _ => ⟨fun hraw _ => need_of_eq_none hraw,
      fun hraw hcal => need_fault_of_isSome hraw fun _ => need_of_eq_none hcal⟩,
    fun s u _ hgen => ?_,
    fun s u _ => ⟨fun ht _ _ => need_of_eq_none ht,
      fun ht hp _ => need_fault_of_isSome ht fun _ => need_of_eq_none hp,
      fun ht hp hh => need_fault_of_isSome ht fun _ => need_fault_of_isSome hp fun _ => need_of_eq_none hh⟩,
    fun s hb hv => ?_, fun s info hcmd => need_of_eq_none hcmd⟩
  · simp only [hsts_powerUp, State.reset]
    simp [State.powerUp]
  · exact (execBbusy_legal hl s).trans (need_of_eq_none hrdata)
  · rcases hi with hi | ⟨rfl, hlayout⟩
    · exact hi.trans_le (seven_le_block2Length _)
    · rw [hlayout]
      decide
  · simp only [exec, execCompp, execComph, needTfineOf_eq hgen]
    exact ⟨fun hf _ _ => need_of_eq_none hf,
      fun hf hraw _ => need_fault_of_isSome hf fun _ => need_of_eq_none hraw,
      fun hf hraw hcal => need_fault_of_isSome hf fun _ => need_fault_of_isSome hraw fun _ => need_of_eq_none hcal,
      fun hf _ _ => need_of_eq_none hf,
      fun hf hraw _ => need_fault_of_isSome hf fun _ => need_of_eq_none hraw,
      fun hf hraw hcal => need_fault_of_isSome hf fun _ => need_fault_of_isSome hraw fun _ => need_of_eq_none hcal⟩
  · have hread {code : Byte} {e : Element} {x : Option F64} (hx : x = none) :
        whenIdle s (readSample code e x s) = .fault (.unwrittenRead e) := by
      rw [whenIdle, hb, readSample, if_pos hv]
      exact need_of_eq_none hx
    exact ⟨hread, hread, hread⟩

end Sys2Proof.Machine
end
section
/-! The bus oracle's answers (20_memory.md R89): the bounds that hold of every bus, and for each answer within them a
bus that gives it. The micro-ROM and the parameter record, which no step writes (R99, 70_reset_and_hazards.md R421). -/

namespace Sys2Proof.Machine

/-! ## The bus oracle (R89) -/

/-- A write transfer accepts at most the bytes sent (R89). -/
theorem writeXfer_le_length (bytes : List Byte) (b : Bus) : (Bus.writeXfer bytes b).1 ≤ bytes.length := by
  unfold Bus.writeXfer
  split
  · exact le_rfl
  · exact min_le_right _ _

/-- A bus whose next answer is written down. -/
def Bus.answering (a : BusAnswer) : Bus := { Bus.idle with script := [a] }

theorem writeXfer_answering (bytes : List Byte) (a : BusAnswer) :
    (Bus.writeXfer bytes (Bus.answering a)).1 = min a.accepted bytes.length := rfl

theorem readXfer_answering (n : Nat) (a : BusAnswer) :
    (Bus.readXfer n (Bus.answering a)).1 = a.bytes.take n := rfl

theorem bindSlave_answering (addr : BitVec 7) (a : BusAnswer) :
    (Bus.bindSlave addr (Bus.answering a)).1 = a.bindOk := rfl

/-- Settles O19: an answer within the bounds, written down, comes back as it is. -/
theorem oracleAnswers : Obligations.OracleAnswers := by
  refine ⟨writeXfer_le_length, readXfer_length_le, fun bytes k hk => ?_, fun n d hd => ?_, fun addr ok => ?_⟩
  · refine ⟨.answering { bindOk := true, accepted := k, bytes := [] }, ?_⟩
    rw [writeXfer_answering, min_eq_left hk]
  · refine ⟨.answering { bindOk := true, accepted := 0, bytes := d }, ?_⟩
    rw [readXfer_answering, List.take_of_length_le hd]
  · exact ⟨.answering { bindOk := ok, accepted := 0, bytes := [] }, bindSlave_answering addr _⟩

/-! ## The micro-ROM and the parameters (R99, R421) -/

theorem Effect.rom_cfg {s t : State} {i : Instr} (h : Effect s i t) : t.rom = s.rom ∧ t.cfg = s.cfg := by
  cases h with
  | burst => exact ⟨putBurst_rom _ _ _, putBurst_cfg _ _ _⟩
  | _ => exact ⟨rfl, rfl⟩

/-- Settles O47: neither is written by an effect, by the fetch, or by the observer. -/
theorem romAndParametersFixed : Obligations.RomAndParametersFixed := by
  intro s t
  refine step_keeps (P := fun u => u.rom = s.rom ∧ u.cfg = s.cfg) (fun _ _ _ hu => hu) (fun _ _ hu => hu) ?_
    ⟨rfl, rfl⟩
  rintro u i v he ⟨hrom, hcfg⟩
  obtain ⟨hrom', hcfg'⟩ := he.rom_cfg
  exact ⟨hrom'.trans hrom, hcfg'.trans hcfg⟩

end Sys2Proof.Machine
end

section
/-! Decoder and encoder agree (30_encoding.md): a micro word decodes to an instruction exactly when it is the word of
that instruction and the instruction is well formed (R145, R146), the words that decode to none are those R147 lists,
and host codes and frames are read back to what they were written for (R114, R140, R141). -/

namespace Sys2Proof

variable {p : BcbConfig} {i : Instr} {op a b c : Byte} {w : MicroWord}

/-! ## The codes of a field -/

/-- A byte is given by its value: what the arms of a decoder, which match on the value, say of the byte. -/
theorem byte_eq_of_toNat (b : Byte) {n : Nat} (h : b.toNat = n) : b = BitVec.ofNat 8 n := by
  rw [← h, BitVec.ofNat_toNat, BitVec.setWidth_eq]

theorem BufId.ofCode_byteCode (buf : BufId) : BufId.ofCode buf.byteCode = some buf := by
  cases buf <;> rfl

theorem BufId.eq_byteCode_of_ofCode {buf : BufId} (h : BufId.ofCode c = some buf) : c = buf.byteCode := by
  unfold BufId.ofCode at h
  split at h <;> cases h <;> exact byte_eq_of_toNat c ‹_›

theorem BufId.ofCode_eq_none_iff : BufId.ofCode c = none ↔ 2#8 < c := by
  unfold BufId.ofCode
  split <;> simp only [imp_false, reduceCtorEq, false_iff, true_iff] at * <;> bv_omega

theorem LifeState.ofCode_byteCode (st : LifeState) : LifeState.ofCode st.byteCode = some st := by
  cases st <;> rfl

theorem LifeState.eq_byteCode_of_ofCode {st : LifeState} (h : LifeState.ofCode b = some st) : b = st.byteCode := by
  unfold LifeState.ofCode at h
  split at h <;> cases h <;> exact byte_eq_of_toNat b ‹_›

theorem LifeState.ofCode_eq_none_iff : LifeState.ofCode b = none ↔ 4#8 < b := by
  unfold LifeState.ofCode
  split <;> simp only [imp_false, reduceCtorEq, false_iff, true_iff] at * <;> bv_omega

/-! ## Micro-instructions (R145, R146) -/

@[simp] theorem whenZero_eq_some_iff {z : Bool} {j : Instr} : whenZero z j = some i ↔ z = true ∧ j = i := by
  cases z <;> simp [whenZero]

/-- The table of operation codes reads the fields of an instruction's word back to the instruction. -/
theorem decodeFields_of_encode (h : encode p i = .micro w) :
    decodeFields (opField w) (aField w) (bField w) (cField w) = some i := by
  cases i <;> cases h <;>
    simp [decodeFields, BufId.ofCode_byteCode, LifeState.ofCode_byteCode]

/-- What the table reads from four fields is encoded in these four. -/
theorem encode_of_decodeFields (h : decodeFields op a b c = some i) : encode p i = .micro (microWord op a b c) := by
  unfold decodeFields at h
  split at h
  case h_5 hop =>
    obtain ⟨buf, hbuf, rfl⟩ := Option.map_eq_some_iff.1 h
    rw [byte_eq_of_toNat op hop, BufId.eq_byteCode_of_ofCode hbuf]
    rfl
  case h_12 hop =>
    obtain ⟨st, hst, hz⟩ := Option.bind_eq_some_iff.1 h
    simp only [whenZero_eq_some_iff, Bool.and_eq_true, beq_iff_eq] at hz
    obtain ⟨⟨rfl, rfl⟩, rfl⟩ := hz
    rw [byte_eq_of_toNat op hop, LifeState.eq_byteCode_of_ofCode hst]
    rfl
  case h_20 => cases h
  all_goals
    obtain rfl := byte_eq_of_toNat op ‹_›
    simp only [whenZero_eq_some_iff, Bool.and_eq_true, beq_iff_eq] at h
    obtain ⟨hzero, rfl⟩ := h
    simp [encode, hzero]

theorem decodeFields_eq_some_iff :
    decodeFields (opField w) (aField w) (bField w) (cField w) = some i ↔ encode p i = .micro w :=
  ⟨fun h => by rw [encode_of_decodeFields h, microWord_fields], decodeFields_of_encode⟩

/-- A word decodes to the well-formed instruction it is the word of, and to nothing else. -/
theorem decodeMicro_eq_ok_iff (p : BcbConfig) :
    decodeMicro w = .ok i ↔ encode p i = .micro w ∧ i.wellFormed = true := by
  rw [← decodeFields_eq_some_iff, decodeMicro]
  cases decodeFields (opField w) (aField w) (bField w) (cField w) with
  | none => simp
  | some j =>
    dsimp only
    split <;> rename_i hj <;> simp only [Except.ok.injEq, Option.some.injEq, reduceCtorEq, false_iff]
    · exact ⟨fun h => ⟨h, h ▸ hj⟩, And.left⟩
    · rintro ⟨rfl, hi⟩
      exact hj hi

/-- Settles O3: the direction from the word of an instruction to the instruction. -/
theorem microDecodeOfEncode : Obligations.MicroDecodeOfEncode := by
  intro p i w hwf henc
  rw [henc]
  exact (decodeMicro_eq_ok_iff p).2 ⟨henc, hwf⟩

/-- Settles O4: the direction from a word to its instruction. -/
theorem microEncodeOfDecode : Obligations.MicroEncodeOfDecode :=
  fun p _ _ => (decodeMicro_eq_ok_iff p).1

/-! ## Illegal words (R147) -/

/-- The forms of R147 that make a word of these four fields illegal. -/
def illegalFields (op a b c : Byte) : Prop :=
  (0x0C ≤ op ∧ op ≤ 0x0F) ∨ 0x17 ≤ op
    ∨ (a ≠ 0 ∧ op ≠ 0x02 ∧ op ≠ 0x03 ∧ op ≠ 0x04)
    ∨ (b ≠ 0 ∧ op ≠ 0x02 ∧ op ≠ 0x04 ∧ op ≠ 0x05 ∧ op ≠ 0x08 ∧ op ≠ 0x0B)
    ∨ (c ≠ 0 ∧ op ≠ 0x04 ∧ op ≠ 0x08 ∧ op ≠ 0x09)
    ∨ (op = 0x04 ∧ (b = 0 ∨ 32 < b ∨ 2 < c))
    ∨ (op = 0x04 ∧ c = 0 ∧ 26 < b)
    ∨ (op = 0x04 ∧ (c = 1 ∨ c = 2) ∧ 8 < b)
    ∨ (op = 0x0B ∧ 4 < b)
    ∨ ((op = 0x08 ∨ op = 0x09) ∧ 0x2E < c)

@[simp] theorem any_wellFormed_whenZero (z : Bool) :
    (whenZero z i).any Instr.wellFormed = (z && i.wellFormed) := by
  cases z <;> rfl

theorem wellFormed_rdb_eq_false_iff {buf : BufId} :
    (Instr.rdb a b buf).wellFormed = false ↔ b = 0 ∨ 32 < b ∨ buf.capacity < b.toNat := by
  simp only [Instr.wellFormed, Bool.and_eq_false_iff, decide_eq_false_iff_not]
  bv_omega

theorem lastRomAddress_lt : lastRomAddress < b ↔ 46#8 < b := Iff.rfl

/-- The fields give no instruction that passes the operand checks exactly where R147 says so. -/
theorem any_wellFormed_decodeFields :
    (decodeFields op a b c).any Instr.wellFormed = false ↔ illegalFields op a b c := by
  unfold decodeFields
  split
  case h_5 hop =>
    obtain rfl := byte_eq_of_toNat op hop
    cases h : BufId.ofCode c with
    | none => simp [illegalFields, BufId.ofCode_eq_none_iff.1 h]
    | some buf =>
      obtain rfl := BufId.eq_byteCode_of_ofCode h
      cases buf <;>
        simp [illegalFields, wellFormed_rdb_eq_false_iff, BufId.byteCode, BufId.capacity, BitVec.lt_def, or_assoc]
  case h_12 hop =>
    obtain rfl := byte_eq_of_toNat op hop
    cases h : LifeState.ofCode b with
    | none => simp [illegalFields, LifeState.ofCode_eq_none_iff.1 h]
    | some st =>
      obtain rfl := LifeState.eq_byteCode_of_ofCode h
      cases st <;> simp [illegalFields, Instr.wellFormed, LifeState.byteCode, imp_iff_not_or]
  case h_20 =>
    have hop : (0x0C ≤ op ∧ op ≤ 0x0F) ∨ 0x17 ≤ op := by
      simp only [imp_false] at *
      bv_omega
    exact iff_of_true rfl (or_assoc.1 (.inl hop))
  all_goals
    obtain rfl := byte_eq_of_toNat op ‹_›
    simp [illegalFields, Instr.wellFormed, lastRomAddress_lt, imp_iff_not_or, or_assoc]

theorem decodeMicro_eq_error_iff :
    decodeMicro w = .error .illegalMicroOp ↔ illegalFields (opField w) (aField w) (bField w) (cField w) := by
  rw [← any_wellFormed_decodeFields, decodeMicro]
  cases decodeFields (opField w) (aField w) (bField w) (cField w) with
  | none => simp
  | some i => cases h : i.wellFormed <;> simp [h]

/-! ## Host codes (R140, R141) -/

theorem decodeHost_eq_ok_iff (p : BcbConfig) : decodeHost b = .ok i ↔ encode p i = .host b := by
  constructor
  · intro h
    unfold decodeHost at h
    split at h <;> cases h <;> rw [byte_eq_of_toNat b ‹_›] <;> rfl
  · intro h
    cases i <;> cases h <;> rfl

theorem decodeHost_eq_error_iff : decodeHost b = .error .reservedHostCode ↔ b = 0x00 ∨ 0x06 ≤ b := by
  unfold decodeHost
  split <;> simp only [imp_false, reduceCtorEq, false_iff, true_iff] at * <;> bv_omega

/-! ## Wire transactions (R114) -/

/-- Frames that are the frames of the transaction they give are decoded to its name. -/
theorem decodeWire_of_decodeFrames {frames : List Frame} (p : BcbConfig) (h : decodeFrames frames = some i) :
    decodeWire p frames = .ok (nameWire p i) := by
  simp only [decodeWire, h]

theorem decodeFrames_writeFrames (a v : Byte) : decodeFrames (writeFrames a v) = some (.writeRegister a v) := rfl

theorem decodeFrames_readFrames_one (a : Byte) : decodeFrames (readFrames a 1) = some (.readRegister a) := rfl

theorem decodeFrames_readFrames {a : Byte} {n : Nat} (h2 : 2 ≤ n) (h32 : n ≤ 32) :
    decodeFrames (readFrames a n) = some (.readBlock a n) := by
  simp only [readFrames, decodeFrames]
  rw [if_neg (by omega), if_pos ⟨h2, h32⟩]

/-- Frames of a transaction are its encoded form, and its burst has a length R113 allows. -/
theorem encode_of_decodeFrames {frames : List Frame} (p : BcbConfig) (h : decodeFrames frames = some i) :
    i.wellFormed = true ∧ encode p i = .wire frames := by
  unfold decodeFrames at h
  split at h
  · cases h
    exact ⟨rfl, rfl⟩
  · cases h
    exact ⟨rfl, rfl⟩
  · rename_i a n
    split_ifs at h with h1 hn <;> cases h
    · subst h1
      exact ⟨rfl, rfl⟩
    · refine ⟨?_, rfl⟩
      simp only [Instr.wellFormed, Bool.and_eq_true, decide_eq_true_eq]
      omega
  · cases h

theorem decodeWire_eq_ok {frames : List Frame} (p : BcbConfig) (h : decodeWire p frames = .ok i) :
    ∃ g : Instr, g.wellFormed = true ∧ encode p g = .wire frames ∧ i = nameWire p g := by
  unfold decodeWire at h
  split at h <;> cases h
  rename_i g hg
  obtain ⟨hwf, henc⟩ := encode_of_decodeFrames p hg
  exact ⟨g, hwf, henc, rfl⟩

/-- Under the default parameters the ten concrete transactions differ in their frames, so each is read back. -/
theorem decode_encode_concrete :
    ∀ i ∈ [Instr.rdChipId, .wrSoftReset, .rdStatus, .rdCal1, .rdCal2, .wrCtrlHum, .wrCtrlMeasCfg, .wrConfig,
      .wrCtrlMeasForced, .rdData],
    decode BcbConfig.defaults (encode BcbConfig.defaults i) = .ok i := by
  decide

/-- Settles O5: host codes one by one, and frames through the generic transaction they are the frames of. -/
theorem hostAndWireDecode : Obligations.HostAndWireDecode := by
  refine ⟨fun p b i => decodeHost_eq_ok_iff p, fun b => decodeHost_eq_error_iff, fun p a v => ⟨?_, ?_⟩,
    fun p a n h2 h32 => ?_, fun p => ?_, fun p frames i => decodeWire_eq_ok p, decode_encode_concrete⟩
  · exact decodeWire_of_decodeFrames p (decodeFrames_writeFrames a v)
  · exact decodeWire_of_decodeFrames p (decodeFrames_readFrames_one a)
  · exact decodeWire_of_decodeFrames p (decodeFrames_readFrames h2 h32)
  · exact decodeWire_of_decodeFrames (frames := [.bind]) p rfl

/-- Settles O2: sixteen closed codes, evaluated. -/
theorem specWordsDecode : Obligations.SpecWordsDecode := by
  unfold Obligations.SpecWordsDecode
  decide

end Sys2Proof

namespace Sys2Proof.Machine

variable {p : BcbConfig} {i : Instr} {w : MicroWord}

/-- A micro-operation is encoded as the word the ROM holds for it. -/
theorem encode_eq_wordOf (p : BcbConfig) (h : Laws.setOf i = .micro) : encode p i = .micro (Rom.wordOf p i) := by
  cases i <;> cases h <;> rfl

/-- A micro-operation whose operands pass the checks of R147. -/
def LegalMicroOp (i : Instr) : Prop := Laws.setOf i = .micro ∧ i.wellFormed = true

theorem cal2Len_of_paramsAdmitted (h : paramsAdmitted p = true) : p.cal2Len = 7 ∨ p.cal2Len = 8 := by
  simp only [paramsAdmitted, Bool.and_eq_true, Bool.or_eq_true, decide_eq_true_eq] at h
  obtain ⟨⟨h8 | h7, -⟩, -⟩ := h
  · exact .inr h8
  · exact .inl h7.1

theorem legalMicroOp_resetPart (h : romParams p) : ∀ row ∈ Rom.resetPart p, LegalMicroOp row.2 := by
  obtain ⟨hadm, h1, -⟩ := h
  rcases cal2Len_of_paramsAdmitted hadm with h2 | h2 <;>
    simp [Rom.resetPart, LegalMicroOp, Laws.setOf, Instr.wellFormed, BufId.capacity, lastRomAddress, h1, h2]

theorem legalMicroOp_primingPart (k : Nat) : ∀ row ∈ Rom.primingPart k, LegalMicroOp row.2 := by
  have hcall : LegalMicroOp (.call 0x20) := ⟨rfl, rfl⟩
  have hend : LegalMicroOp .endCmd := ⟨rfl, rfl⟩
  intro row h
  rcases List.mem_append.1 h with h | h
  · rcases List.mem_append.1 h with h | h
    · obtain ⟨j, -, rfl⟩ := List.mem_map.1 h
      exact hcall
    · rw [List.mem_singleton.1 h]
      exact hend
  · have hrow := List.mem_of_mem_drop h
    simp only [List.mem_cons, List.not_mem_nil, or_false] at hrow
    rcases hrow with rfl | rfl
    · exact hcall
    · exact hend

theorem legalMicroOp_refreshPart (h : romParams p) : ∀ row ∈ Rom.refreshPart p, LegalMicroOp row.2 := by
  obtain ⟨-, -, hd⟩ := h
  simp [Rom.refreshPart, LegalMicroOp, Laws.setOf, Instr.wellFormed, BufId.capacity, lastRomAddress, hd]

/-- Every row of the program is legal (R360, R361). -/
theorem legalMicroOp_program (hp : romParams p) {row : Nat × Instr} (h : row ∈ Rom.program p) :
    LegalMicroOp row.2 := by
  rcases List.mem_append.1 h with h | h
  · rcases List.mem_append.1 h with h | h
    · exact legalMicroOp_resetPart hp row h
    · exact legalMicroOp_primingPart _ row h
  · exact legalMicroOp_refreshPart hp row h

/-- A step at an illegal word is the fault IllegalMicroOp (R147, R389). -/
theorem step_illegalMicroOp {s : State} {u : Byte} (hadm : paramsAdmitted s.cfg = true)
    (hport : s.wireQueue = []) (hb : s.busy = true) (hu : s.upc = some u)
    (hw : Memory.read s.rom u.toNat = some w) (h : decodeMicro w = .error .illegalMicroOp) :
    step s = .fault .illegalMicroOp := by
  simp [step, fetch, fetchMicro, hadm, hport, hb, hu, hw, h]

/-- Settles O7: by the fields of a word, by the rows of the program, and by the fetch. -/
theorem illegalWords : Obligations.IllegalWords := by
  refine ⟨fun w => decodeMicro_eq_error_iff, fun p a w hp hw => ?_, fun s u w => step_illegalMicroOp⟩
  obtain ⟨row, hrow, hcell⟩ := List.mem_map.1 hw
  cases hcell
  obtain ⟨hset, hwf⟩ := legalMicroOp_program hp hrow
  exact ⟨row.2, (decodeMicro_eq_ok_iff p).2 ⟨encode_eq_wordOf p hset, hwf⟩⟩

end Sys2Proof.Machine
end
section
/-! Bus transactions (40_bus_transactions.md): how each transaction ends, given what the bus moved (R160 to R164), and
from it the wire transactions (R165 to R175) and the bus micro-operations (R178 to R181), complete and short. -/

namespace Sys2Proof.Machine

variable {s t : State} {a v : Byte} {n : Nat} {d : List Byte} {kind : XferKind}

/-! ## How a transaction ends -/

theorem writeRegisterTx_of_accepted (hs : s.sessionBound = true) (hk : 2 ≤ (Bus.writeXfer [a, v] s.bus).1) :
    writeRegisterTx a v s = .done () { s with bus := (Bus.writeXfer [a, v] s.bus).2 } := by
  rw [writeRegisterTx, if_pos hs]
  exact if_neg hk.not_gt

theorem writeRegisterTx_of_short (hs : s.sessionBound = true) (hk : (Bus.writeXfer [a, v] s.bus).1 < 2) :
    writeRegisterTx a v s = .raised (.bus .write a 2 (Bus.writeXfer [a, v] s.bus).1)
      { s with bus := (Bus.writeXfer [a, v] s.bus).2 } := by
  rw [writeRegisterTx, if_pos hs]
  exact if_pos hk

theorem readTx_of_whole (hs : s.sessionBound = true) (hsel : 1 ≤ (Bus.writeXfer [a] s.bus).1)
    (hd : (Bus.readXfer n (Bus.writeXfer [a] s.bus).2).1 = d) (hlen : d.length = n) :
    readTx kind a n s = .done d { s with bus := (Bus.readXfer n (Bus.writeXfer [a] s.bus).2).2 } := by
  subst hd
  rw [readTx, if_pos hs]
  exact (if_neg hsel.not_gt).trans (if_neg hlen.not_lt)

/-- After a short select the read transfer is not issued (R162, R163). -/
theorem readTx_of_short_select (hs : s.sessionBound = true) (hsel : (Bus.writeXfer [a] s.bus).1 < 1) :
    readTx kind a n s = .raised (.bus .select a 1 0) { s with bus := (Bus.writeXfer [a] s.bus).2 } := by
  rw [← Nat.lt_one_iff.1 hsel, readTx, if_pos hs]
  exact if_pos hsel

theorem readTx_of_short_read (hs : s.sessionBound = true) (hsel : 1 ≤ (Bus.writeXfer [a] s.bus).1)
    (hlen : (Bus.readXfer n (Bus.writeXfer [a] s.bus).2).1.length < n) :
    readTx kind a n s = .raised (.bus kind a n (Bus.readXfer n (Bus.writeXfer [a] s.bus).2).1.length)
      { s with bus := (Bus.readXfer n (Bus.writeXfer [a] s.bus).2).2 } := by
  rw [readTx, if_pos hs]
  exact (if_neg hsel.not_gt).trans (if_pos hlen)

/-- A byte was asked for and none came. -/
theorem readTx_of_no_byte (hs : s.sessionBound = true) (hsel : 1 ≤ (Bus.writeXfer [a] s.bus).1)
    (hd : (Bus.readXfer 1 (Bus.writeXfer [a] s.bus).2).1 = []) :
    readTx kind a 1 s = .raised (.bus kind a 1 0)
      { s with bus := (Bus.readXfer 1 (Bus.writeXfer [a] s.bus).2).2 } := by
  simpa [hd] using readTx_of_short_read (kind := kind) (n := 1) hs hsel (by simp [hd])

theorem bindTx_of_ok (h : (Bus.bindSlave s.cfg.slaveAddr s.bus).1 = true) :
    bindTx s = .done () { s with bus := (Bus.bindSlave s.cfg.slaveAddr s.bus).2, sessionBound := true } :=
  if_pos h

theorem bindTx_of_refused (h : (Bus.bindSlave s.cfg.slaveAddr s.bus).1 = false) :
    bindTx s = .raised (.bus .bind (s.cfg.slaveAddr.setWidth 8) 0 0)
      { s with bus := (Bus.bindSlave s.cfg.slaveAddr s.bus).2 } := by
  simp [bindTx, h]

/-! ## The error of a transaction aborts the running command (R160, R380) -/

section
variable {α : Type} {x : Tx α} {info : ErrInfo} {c : HostCmd} (k : α → State → Res)

theorem finish_of_raised (hx : x = .raised info t) (hc : t.cmd = some c) :
    x.finish k = .next (abortWith info c t) := by
  rw [hx]
  exact raiseError_of hc

theorem runDirect_of_raised (hx : x = .raised info t) (hb : t.busy = true) (hc : t.cmd = some c) :
    runDirect x k = .next (abortWith info c t) := by
  rw [hx]
  exact (if_pos hb).trans (raiseError_of hc)

end

/-- What the abort of either command leaves of the bytes received, and what it writes (R380, R388). -/
theorem abortWith_fields (info : ErrInfo) (c : HostCmd) (s : State) :
    (abortWith info c s).rdata = s.rdata ∧ (abortWith info c s).buf1 = s.buf1 ∧
      (abortWith info c s).buf2 = s.buf2 ∧ (abortWith info c s).bufd = s.bufd ∧
      (abortWith info c s).err = errKindOf info ∧ (abortWith info c s).busy = false := by
  cases c <;> exact ⟨rfl, rfl, rfl, rfl, rfl, rfl⟩

/-- A micro-operation whose read was short, and which answered a next state, aborted with a BusTransferError; the bus
alone had moved. -/
theorem finish_readTx_short {k : List Byte → State → Res} (h : (readTx kind a n s).finish k = .next t)
    (hshort : (Bus.writeXfer [a] s.bus).1 < 1 ∨ (Bus.readXfer n (Bus.writeXfer [a] s.bus).2).1.length < n) :
    ∃ info c b, errKindOf info = .busTransferError ∧ t = abortWith info c { s with bus := b } := by
  rcases finish_next h with ⟨d, s', hdone, -⟩ | ⟨info, s', c, hraised, -, rfl⟩
  · obtain ⟨-, hsel, hlen, rfl, -⟩ := readTx_done hdone
    omega
  · obtain ⟨-, ⟨-, rfl, rfl⟩ | ⟨-, -, rfl, rfl⟩⟩ := readTx_raised hraised
    · exact ⟨_, c, _, rfl, rfl⟩
    · exact ⟨_, c, _, rfl, rfl⟩

/-! ## Wire transactions, generic and concrete (R161 to R175) -/

section
variable {i : Instr}

theorem exec_of_writesRegister (hi : writesRegister s.cfg i a v) : exec i s = runWrite (writeRegisterTx a v s) := by
  rcases hi with rfl | ⟨rfl, rfl, rfl⟩ | ⟨rfl, rfl, rfl⟩ | ⟨rfl, rfl, rfl⟩ | ⟨rfl, rfl, rfl⟩ | ⟨rfl, rfl, rfl⟩
  all_goals rfl

theorem exec_of_readsRegister (hi : readsRegister s.cfg i a) : exec i s = runRead (readTx .read a 1 s) := by
  rcases hi with rfl | ⟨rfl, rfl⟩ | ⟨rfl, rfl⟩
  all_goals rfl

theorem exec_of_readsBlock (hi : readsBlock s.cfg i a n) : exec i s = runRead (readTx .burst a n s) := by
  have hburst {a : Byte} {n : Nat} (hlow : 1 ≤ n) (hhigh : n ≤ 32) :
      runBurst a n s = runRead (readTx .burst a n s) := if_pos ⟨hlow, hhigh⟩
  obtain ⟨hlow, hhigh, rfl | ⟨rfl, rfl, rfl⟩ | ⟨rfl, rfl, rfl⟩ | ⟨rfl, rfl, rfl⟩⟩ := hi
  all_goals exact hburst hlow hhigh

end

theorem writesRegister_nameWire (p : BcbConfig) (a v : Byte) :
    writesRegister p (nameWire p (.writeRegister a v)) a v := by
  simp only [nameWire, writesRegister]
  split_ifs <;> simp [*]

theorem readsRegister_nameWire (p : BcbConfig) (a : Byte) : readsRegister p (nameWire p (.readRegister a)) a := by
  simp only [nameWire, readsRegister]
  split_ifs <;> simp [*]

/-- Of any length, also one that both refuse (R113). -/
theorem exec_nameWire_readBlock (a : Byte) (n : Nat) (s : State) :
    exec (nameWire s.cfg (.readBlock a n)) s = exec (.readBlock a n) s := by
  simp only [nameWire]
  split_ifs with h h h
  case neg => rfl
  all_goals
    obtain ⟨rfl, rfl⟩ := h
    rfl

/-- Settles O6: a name of section 2 is given only to a transaction with the parameters of that name. -/
theorem namedTransactionActsAsGeneric : Obligations.NamedTransactionActsAsGeneric := by
  intro i s
  cases i with
  | writeRegister a v =>
    exact (exec_of_writesRegister (writesRegister_nameWire s.cfg a v)).trans (exec_of_writesRegister (.inl rfl)).symm
  | readRegister a =>
    exact (exec_of_readsRegister (readsRegister_nameWire s.cfg a)).trans (exec_of_readsRegister (.inl rfl)).symm
  | readBlock a n => exact exec_nameWire_readBlock a n s
  | _ => rfl

/-- Settles O14: the transaction is done. -/
theorem registerWriteCompletes : Obligations.RegisterWriteCompletes := by
  intro s i a v hi hs hk
  rw [exec_of_writesRegister hi, writeRegisterTx_of_accepted hs hk]
  rfl

/-- Settles O15: the transaction is done with its one byte. -/
theorem registerReadCompletes : Obligations.RegisterReadCompletes := by
  intro s i a d hi hs hsel hd
  rw [exec_of_readsRegister hi, readTx_of_whole hs hsel hd rfl]
  rfl

/-- Settles O16: the transaction is done with all its bytes. -/
theorem blockReadCompletes : Obligations.BlockReadCompletes := by
  intro s i a n d hi hs hsel hd hlen
  rw [exec_of_readsBlock hi, readTx_of_whole hs hsel hd hlen]
  rfl

/-- Settles O17: the transaction is raised, and a command runs that the error aborts. -/
theorem shortTransferRaises : Obligations.ShortTransferRaises := by
  refine ⟨fun s i a v c hi hs hb hc hk => ?_, fun s i a n c hi hs hb hc hsel => ?_,
    fun s i a c hi hs hb hc hsel hd => ?_, fun s i a n c hi hs hb hc hsel hlen => ?_⟩
  · rw [exec_of_writesRegister hi]
    exact runDirect_of_raised _ (writeRegisterTx_of_short hs hk) hb hc
  · rcases hi with hi | hi
    · rw [exec_of_readsRegister hi]
      exact runDirect_of_raised _ (readTx_of_short_select hs hsel) hb hc
    · rw [exec_of_readsBlock hi]
      exact runDirect_of_raised _ (readTx_of_short_select hs hsel) hb hc
  · rw [exec_of_readsRegister hi]
    exact runDirect_of_raised _ (readTx_of_no_byte hs hsel hd) hb hc
  · rw [exec_of_readsBlock hi]
    exact runDirect_of_raised _ (readTx_of_short_read hs hsel hlen) hb hc

/-! ## Bus micro-operations (R178 to R181) -/

/-- Settles O20: R147 for the unused field, and the two ends of the register write. -/
theorem wrMicroOp : Obligations.WrMicroOp := by
  refine ⟨by decide, fun a v c hc => ?_, fun s a v u hs hu hk => ?_, fun s a v c hs hc hk => ?_⟩
  · rw [decodeMicro_eq_error_iff]
    simpa [illegalFields] using hc
  · rw [exec, execWr, writeRegisterTx_of_accepted hs hk]
    exact advance_of hu
  · exact finish_of_raised _ (writeRegisterTx_of_short hs hk) hc

/-- Settles O21: the ends of the read, and what the abort leaves of RDATA. -/
theorem rdMicroOp : Obligations.RdMicroOp := by
  refine ⟨by decide, fun s a d u hs hu hsel hd => ?_, fun s a c hs hc hsel => ?_,
    fun s a c hs hc hsel hd => ?_, fun s t a h hshort => ?_⟩
  · rw [exec, execRd, readRegisterTx, readTx_of_whole hs hsel hd rfl]
    exact advance_of hu
  · exact finish_of_raised _ (readTx_of_short_select hs hsel) hc
  · exact finish_of_raised _ (readTx_of_no_byte hs hsel hd) hc
  · obtain ⟨info, c, b, hinfo, rfl⟩ := finish_readTx_short h (hshort.imp_right fun hd => by simp [hd])
    obtain ⟨hrdata, -, -, -, herr, hbusy⟩ := abortWith_fields info c { s with bus := b }
    exact ⟨hrdata, herr.trans hinfo, hbusy⟩

section
variable {m u : Byte} {buf : BufId}

/-- RDB on legal operands is the burst that R180 says. -/
theorem exec_rdb (hwf : (Instr.rdb a m buf).wellFormed = true) (s : State) :
    exec (.rdb a m buf) s =
      (readTx .burst a m.toNat s).finish fun d t => advance (t.putBurst buf d) :=
  if_pos hwf

/-- RDB answers a next state on legal operands only (R147). -/
theorem wellFormed_of_exec_rdb (h : exec (.rdb a m buf) s = .next t) : (Instr.rdb a m buf).wellFormed = true := by
  by_contra hwf
  have hfault : exec (.rdb a m buf) s = .fault .illegalMicroOp := if_neg hwf
  cases hfault.symm.trans h

/-- A whole burst is written to the buffer named, all at once (R180). -/
theorem exec_rdb_whole (hwf : (Instr.rdb a m buf).wellFormed = true) (hs : s.sessionBound = true)
    (hu : s.upc = some u) (hsel : 1 ≤ (Bus.writeXfer [a] s.bus).1)
    (hd : (Bus.readXfer m.toNat (Bus.writeXfer [a] s.bus).2).1 = d) (hlen : d.length = m.toNat) :
    exec (.rdb a m buf) s = .next
      { ({ s with bus := (Bus.readXfer m.toNat (Bus.writeXfer [a] s.bus).2).2 } : State).putBurst buf d with
        upc := some (u + 1) } := by
  rw [exec_rdb hwf, readTx_of_whole hs hsel hd hlen]
  exact advance_of ((putBurst_upc _ _ _).trans hu)

end

theorem bufferAfter_of_length (buf : List (Option Byte)) (hlen : d.length = n) :
    bufferAfter buf d = d.map some ++ buf.drop n := by
  rw [bufferAfter, hlen]

/-- Settles O22: the ends of the burst, and what the abort leaves of the buffers. -/
theorem rdbMicroOp : Obligations.RdbMicroOp := by
  refine ⟨by decide, ?buf1, ?buf2, ?bufd, fun s a n b c hwf hs hc hsel => ?_,
    fun s a n b c hwf hs hc hsel hlen => ?_, fun s t a n b h hshort => ?_⟩
  case buf1 | buf2 | bufd =>
    intro s a n u d hwf hs hu hsel hd hlen
    rw [exec_rdb_whole hwf hs hu hsel hd hlen, ← bufferAfter_of_length _ hlen]
    rfl
  · rw [exec_rdb hwf]
    exact finish_of_raised _ (readTx_of_short_select hs hsel) hc
  · rw [exec_rdb hwf]
    exact finish_of_raised _ (readTx_of_short_read hs hsel hlen) hc
  · rw [exec_rdb (wellFormed_of_exec_rdb h)] at h
    obtain ⟨info, c, b, hinfo, rfl⟩ := finish_readTx_short h hshort
    obtain ⟨-, hbuf1, hbuf2, hbufd, herr, hbusy⟩ := abortWith_fields info c { s with bus := b }
    exact ⟨hbuf1, hbuf2, hbufd, herr.trans hinfo, hbusy⟩

/-- Settles O23: the two answers of the adapter, on the wire and in the micro-program. -/
theorem bindOperations : Obligations.BindOperations := by
  refine ⟨fun s hok => ?_, fun s c hno hb hc => ?_, by decide, fun s u hu hok => ?_, fun s c hc hno => ?_⟩
  · rw [exec, execBindSession, bindTx_of_ok hok]
    rfl
  · exact runDirect_of_raised _ (bindTx_of_refused hno) hb hc
  · rw [exec, execBind, bindTx_of_ok hok]
    exact advance_of hu
  · exact finish_of_raised _ (bindTx_of_refused hno) hc

end Sys2Proof.Machine
end
section
/-! Calibration (41_calibration.md): what PCAL parses from bytes that are written (R200 to R207, R221), and the numbers
the stored patterns stand for (R15, R201 to R206). -/

namespace Sys2Proof.Machine

/-! ## The parse of written bytes -/

theorem le16At_of_bytes {b : List (Option Byte)} {i : Nat} {lo hi : Byte} (hlo : byteAt b i = some lo)
    (hhi : byteAt b (i + 1) = some hi) : le16At b i = some (word16 lo hi) := by
  simp [le16At, hlo, hhi]

/-- The coefficients of block 1 (R201 to R204) in their bytes, over a record that holds the others. -/
def block1Cal (b : Nat → Byte) (c : Cal) : Cal :=
  { c with
    digT1 := word16 (b 0) (b 1), digT2 := word16 (b 2) (b 3), digT3 := word16 (b 4) (b 5)
    digP1 := word16 (b 6) (b 7), digP2 := word16 (b 8) (b 9), digP3 := word16 (b 10) (b 11)
    digP4 := word16 (b 12) (b 13), digP5 := word16 (b 14) (b 15), digP6 := word16 (b 16) (b 17)
    digP7 := word16 (b 18) (b 19), digP8 := word16 (b 20) (b 21), digP9 := word16 (b 22) (b 23)
    digH1 := b 25 }

/-- The coefficients of block 2 (R205 to R207) in their bytes, over a record that holds the others. -/
def block2Cal (layout : H45Layout) (b : Nat → Byte) (c : Cal) : Cal :=
  match layout with
  | .nibble12 =>
    { c with
      digH2 := word16 (b 0) (b 1), digH3 := b 2
      digH4 := nibbleH4 (b 3) (b 4), digH5 := nibbleH5 (b 5) (b 4), digH6 := b 6 }
  | .word16 =>
    { c with
      digH2 := word16 (b 0) (b 1), digH3 := b 2
      digH4 := word16 (b 3) (b 4), digH5 := word16 (b 5) (b 6), digH6 := b 7 }

theorem parseBlock1_of_bytes {buf : List (Option Byte)} {b : Nat → Byte}
    (hb : ∀ i < 26, i ≠ 24 → byteAt buf i = some (b i)) (c : Cal) : parseBlock1 buf c = some (block1Cal b c) := by
  have hword (i : Nat) (hi : i < 23) : le16At buf i = some (word16 (b i) (b (i + 1))) :=
    le16At_of_bytes (hb i (by omega) (by omega)) (hb (i + 1) (by omega) (by omega))
  simp [parseBlock1, parseT, parseP, parseH1, hword, hb, block1Cal]

theorem parseBlock2_of_bytes {layout : H45Layout} {buf : List (Option Byte)} {b : Nat → Byte}
    (hb : ∀ i < block2Length layout, byteAt buf i = some (b i)) (c : Cal) :
    parseBlock2 layout buf c = some (block2Cal layout b c) := by
  have hword (i : Nat) (hi : i + 1 < block2Length layout) : le16At buf i = some (word16 (b i) (b (i + 1))) :=
    le16At_of_bytes (hb i (by omega)) (hb (i + 1) hi)
  cases layout with
  | nibble12 =>
    rw [block2Length] at hb hword
    simp [parseBlock2, parseH23, parseNibble12, hword, hb, block2Cal]
  | word16 =>
    rw [block2Length] at hb hword
    simp [parseBlock2, parseH23, parseWord16, hword, hb, block2Cal]

/-- PCAL on written blocks (R200, R221), for either layout. -/
theorem execPcal_of_bytes {s : State} {u : Byte} {b1 b2 : Nat → Byte} (hu : s.upc = some u)
    (h1 : ∀ i < 26, i ≠ 24 → byteAt s.buf1 i = some (b1 i))
    (h2 : ∀ i < block2Length s.cfg.h45Layout, byteAt s.buf2 i = some (b2 i)) :
    execPcal s = .next
      { s with
        cal := some (block2Cal s.cfg.h45Layout b2 (block1Cal b1 emptyCal))
        calValid := true
        upc := some (u + 1) } := by
  rw [execPcal, parseBlock1_of_bytes h1, need_some, parseBlock2_of_bytes h2, need_some]
  exact advance_of hu

/-- Settles O32: the one parse, at each of the two layouts. -/
theorem pcalMicroOp : Obligations.PcalMicroOp := by
  refine ⟨by decide, fun s u b1 b2 hu hlayout h1 h2 => ?_, fun s u b1 b2 hu hlayout h1 h2 => ?_⟩
  all_goals
    rw [exec, execPcal_of_bytes hu h1 (by rwa [hlayout]), hlayout]
    rfl

/-! ## The numbers of the stored patterns -/

/-- `u16` of R15. -/
theorem word16_toNat (lo hi : Byte) : (word16 lo hi).toNat = hi.toNat * 256 + lo.toNat := by
  rw [word16, BitVec.toNat_append, ← Nat.shiftLeft_add_eq_or_of_lt lo.isLt, Nat.shiftLeft_eq]

/-- `s16` of R15. -/
theorem word16_toInt (lo hi : Byte) :
    (word16 lo hi).toInt =
      if hi.toNat < 128 then (hi.toNat * 256 + lo.toNat : Int) else hi.toNat * 256 + lo.toNat - 65536 := by
  have hlo := lo.isLt
  rw [BitVec.toInt_eq_toNat_cond, word16_toNat]
  split_ifs <;> omega

/-- A signed byte and a nibble below it are a number of 12 bits, which a 16-bit pattern holds (R206). -/
theorem signedByte_nibble (hi : Byte) {n : Nat} (hn : n < 16) :
    (BitVec.ofInt 16 (s8 hi * 16 + n)).toInt = hi.toInt * 16 + n ∧
    -2048 ≤ (BitVec.ofInt 16 (s8 hi * 16 + n)).toInt ∧ (BitVec.ofInt 16 (s8 hi * 16 + n)).toInt ≤ 2047 := by
  have hlow : -128 ≤ hi.toInt := hi.le_toInt
  have hhigh : hi.toInt < 128 := hi.toInt_lt
  have hexact : (BitVec.ofInt 16 (hi.toInt * 16 + n)).toInt = hi.toInt * 16 + n :=
    BitVec.toInt_ofInt_eq_self (by decide) (by omega) (by omega)
  rw [s8, hexact]
  omega

theorem lowNibble_toNat (b : Byte) : (b &&& 0x0F).toNat = b.toNat % 16 := Nat.and_two_pow_sub_one_eq_mod b.toNat 4

theorem highNibble_toNat (b : Byte) : (b >>> 4).toNat = b.toNat / 16 := Nat.shiftRight_eq_div_pow b.toNat 4

/-- The two readings of a pattern differ where its sign bit is set. -/
theorem toNat_ne_toInt_iff (x : BitVec 16) : (x.toNat : Int) ≠ x.toInt ↔ 0x8000 ≤ x := by
  have hle : 0x8000 ≤ x ↔ 0x8000 ≤ x.toNat := Iff.rfl
  rw [hle, BitVec.toInt_eq_toNat_cond]
  split_ifs <;> omega

/-- Settles O33: the words, the two packed coefficients and the two readings of `dig_P1`. -/
theorem coefficientValues : Obligations.CoefficientValues := by
  refine ⟨fun lo hi => ⟨word16_toNat lo hi, word16_toInt lo hi⟩, fun b3 b4 => ?_, fun b5 b4 => ?_,
    fun c => ⟨rfl, rfl, toNat_ne_toInt_iff c.digP1⟩⟩
  · rw [nibbleH4, lowNibble_toNat]
    exact signedByte_nibble b3 (Nat.mod_lt _ (by decide))
  · have hb4 := b4.isLt
    rw [nibbleH5, highNibble_toNat]
    exact signedByte_nibble b5 (by omega)

end Sys2Proof.Machine
end
section
/-! The measurement burst and the compensation micro-operations (42_compensation_double.md): the whole next state of
CHKRSV, DECODE, COMPT, COMPP and COMPH on written operands (R240, R241, R245, R250, R260), and what their results depend
on (R266). -/

namespace Sys2Proof.Machine

variable {s t : State} {u : Byte}

/-! ## The measurement burst (R240, R241) -/

theorem toNat_lowNibble (b : Byte) : (lowNibble b).toNat = b.toNat % 16 := by
  rw [lowNibble, BitVec.extractLsb'_toNat, Nat.shiftRight_zero]

theorem lowNibble_eq_ofNat (b : Byte) : lowNibble b = BitVec.ofNat 4 (b.toNat % 16) := by
  rw [← toNat_lowNibble, BitVec.ofNat_toNat, BitVec.setWidth_eq]

theorem lowNibble_ne_zero_iff (b : Byte) : lowNibble b ≠ 0 ↔ b.toNat % 16 ≠ 0 := by
  rw [← toNat_lowNibble]
  exact BitVec.toNat_ne_iff_ne.symm

theorem toNat_count20 (b0 b1 b2 : Byte) :
    (count20 b0 b1 b2).toNat = b0.toNat * 4096 + b1.toNat * 16 + b2.toNat / 16 := by
  have h0 := b0.isLt
  have h1 := b1.isLt
  have h2 := b2.isLt
  rw [count20, BitVec.toNat_ofNat]
  omega

theorem toNat_count16 (b6 b7 : Byte) : (count16 b6 b7).toNat = b6.toNat * 256 + b7.toNat := by
  have h6 := b6.isLt
  have h7 := b7.isLt
  rw [count16, BitVec.toNat_ofNat]
  omega

/-- CHKRSV on written bytes: the reserved nibbles decide between the error and the advance. -/
theorem execChkrsv_of_bytes {b2 b5 : Byte} (h2 : byteAt s.bufd 2 = some b2) (h5 : byteAt s.bufd 5 = some b5) :
    execChkrsv s = if b2.toNat % 16 ≠ 0 ∨ b5.toNat % 16 ≠ 0 then
        raiseError (.reserved (BitVec.ofNat 4 (b2.toNat % 16)) (BitVec.ofNat 4 (b5.toNat % 16))) s
      else advance s := by
  rw [execChkrsv, h2, need_some, h5, need_some]
  simp only [lowNibble_ne_zero_iff]
  rw [lowNibble_eq_ofNat, lowNibble_eq_ofNat]

/-- DECODE on a written burst. -/
theorem execDecode_of_bytes {b : Nat → Byte} (hu : s.upc = some u) (hb : ∀ i < 8, byteAt s.bufd i = some (b i)) :
    execDecode s = .next
      { s with
        rawP := some (count20 (b 0) (b 1) (b 2)), rawT := some (count20 (b 3) (b 4) (b 5))
        rawH := some (count16 (b 6) (b 7)), rawGen := s.rawGen + 1, upc := some (u + 1) } := by
  simp only [execDecode, hb, Nat.reduceLT, need_some]
  exact advance_of hu

/-- Settles O34: the two cases of CHKRSV on its nibbles, and the counts DECODE assembles. -/
theorem burstMicroOps : Obligations.BurstMicroOps := by
  refine ⟨by decide, fun s b2 b5 u h2 h5 hu hz2 hz5 => ?_, fun s b2 b5 c h2 h5 hc hne => ?_, by decide,
    fun s u b hu hb => ⟨_, _, _, execDecode_of_bytes hu hb, toNat_count20 _ _ _, toNat_count20 _ _ _,
      toNat_count16 _ _⟩⟩
  · rw [exec, execChkrsv_of_bytes h2 h5, if_neg (not_or.2 ⟨not_not.2 hz2, not_not.2 hz5⟩)]
    exact advance_of hu
  · rw [exec, execChkrsv_of_bytes h2 h5, if_pos hne]
    exact raiseError_of hc

/-! ## The compensation micro-operations on written operands -/

section
variable {c : Cal} {f : BitVec 32} {n : Int} {x : F64} {w : Option Int}

theorem execCompt_of {raw : BitVec 20} (hu : s.upc = some u) (hraw : s.rawT = some raw) (hc : s.cal = some c)
    (hres : tempResult s.cfg raw c = (n, x, w)) :
    execCompt s = .next
      { s with
        tfine := some (BitVec.ofInt 32 n), tNew := some x, tInt := keepWord w s.tInt, tfineGen := s.rawGen
        upc := some (u + 1) } := by
  rw [execCompt, hraw, need_some, hc, need_some, hres]
  exact advance_of hu

theorem execCompp_of {raw : BitVec 20} (hu : s.upc = some u) (hf : s.tfine = some f) (hraw : s.rawP = some raw)
    (hc : s.cal = some c) (hgen : s.tfineGen = s.rawGen) (hres : pressResult s.cfg f.toInt raw c = (x, w)) :
    execCompp s = .next { s with pNew := some x, pInt := keepWord w s.pInt, upc := some (u + 1) } := by
  rw [execCompp, needTfineOf_eq hgen, hf, need_some, hraw, need_some, hc, need_some, hres]
  exact advance_of hu

theorem execComph_of {raw : BitVec 16} (hu : s.upc = some u) (hf : s.tfine = some f) (hraw : s.rawH = some raw)
    (hc : s.cal = some c) (hgen : s.tfineGen = s.rawGen) (hres : humResult s.cfg f.toInt raw c = (x, w)) :
    execComph s = .next { s with hNew := some x, hInt := keepWord w s.hInt, upc := some (u + 1) } := by
  rw [execComph, needTfineOf_eq hgen, hf, need_some, hraw, need_some, hc, need_some, hres]
  exact advance_of hu

end

/-! ## The binary64 variant -/

section
variable {p : BcbConfig} (hp : p.compVariant = .double)
include hp

theorem tempResult_double (raw : BitVec 20) (c : Cal) :
    tempResult p raw c = (tfineRound p.tfineRounding (tSum raw c), tNewOf (tSum raw c), none) := by
  rw [tempResult, hp]

theorem pressResult_double (f : Int) (raw : BitVec 20) (c : Cal) :
    pressResult p f raw c = (pNewOf p.p1Signedness f raw c, none) := by
  rw [pressResult, hp]

theorem humResult_double (f : Int) (raw : BitVec 16) (c : Cal) : humResult p f raw c = (hNewOf f raw c, none) := by
  rw [humResult, hp]

end

/-- Settles O35: the operations of R245 are those of `tSum` and `tNewOf`. -/
theorem comptDouble : Obligations.ComptDouble := by
  refine ⟨by decide, ?_⟩
  rintro s u raw c _ _ _ _ _ _ hu hraw hc hv rfl rfl rfl rfl rfl rfl
  rw [exec, execCompt_of hu hraw hc (tempResult_double hv raw c)]
  rfl

/-- Settles O38: the operations of R250 are those of `pDenominator`, `pV2` and `pQuotient`. -/
theorem comppDouble : Obligations.ComppDouble := by
  refine ⟨by decide, ?_⟩
  rintro s u f raw c _ _ _ _ _ _ hu hf hraw hc hgen hv rfl rfl rfl rfl rfl rfl
  rw [exec, execCompp_of hu hf hraw hc hgen (pressResult_double hv f.toInt raw c)]
  rfl

/-- The clamp on finite numbers (R261). -/
theorem hClamp_of_isFinite {h : F64} (hfin : F64.isFinite h = true) :
    hClamp h =
      if 100 < F64.value h then F64.lit 100 else if F64.value h < 0 then F64.zero false else h := by
  obtain ⟨hfin100, hval100⟩ := F64.lit_exact (n := 100) (by norm_num)
  simp only [hClamp, F64.lt_iff hfin100 hfin, F64.lt_iff hfin (F64.isFinite_zero false), hval100, F64.value_zero]
  rfl

/-- Settles O40: the operations of R260 are those of `hUnclamped`; the clamp by the two comparisons. -/
theorem comphDouble : Obligations.ComphDouble := by
  refine ⟨by decide, ?_, fun h hfin => ?_, by decide +kernel⟩
  · rintro s u f raw c _ _ _ _ _ hu hf hraw hc hgen hv rfl rfl rfl rfl rfl
    rw [exec, execComph_of hu hf hraw hc hgen (humResult_double hv f.toInt raw c)]
    rfl
  · rw [hClamp_of_isFinite hfin]
    refine ⟨fun habove => if_pos habove, fun hbelow => ?_, fun hlow hhigh => ?_⟩
    · rw [if_neg (by linarith), if_pos hbelow]
      rfl
    · rw [if_neg hhigh.not_gt, if_neg hlow.not_gt]

/-! ## Purity (R266) -/

/-- What COMPT writes is a function of the raw count, the coefficients and the parameters. -/
theorem execCompt_next (h : execCompt s = .next t) :
    t.tfine = (s.rawT.bind fun raw => s.cal.map fun c => BitVec.ofInt 32 (tempResult s.cfg raw c).1) ∧
      t.tNew = (s.rawT.bind fun raw => s.cal.map fun c => (tempResult s.cfg raw c).2.1) ∧ t.bus = s.bus := by
  obtain ⟨raw, hraw, h⟩ := need_next h
  obtain ⟨c, hc, h⟩ := need_next h
  obtain ⟨u, -, rfl⟩ := advance_next h
  rw [hraw, hc]
  exact ⟨rfl, rfl, rfl⟩

/-- What COMPP writes is a function of TFINE, the raw count, the coefficients and the parameters. -/
theorem execCompp_next (h : execCompp s = .next t) :
    t.pNew = (s.tfine.bind fun f => s.rawP.bind fun raw => s.cal.map fun c =>
      (pressResult s.cfg f.toInt raw c).1) ∧ t.bus = s.bus := by
  obtain ⟨-, h⟩ := needTfineOf_next h
  obtain ⟨f, hf, h⟩ := need_next h
  obtain ⟨raw, hraw, h⟩ := need_next h
  obtain ⟨c, hc, h⟩ := need_next h
  obtain ⟨u, -, rfl⟩ := advance_next h
  rw [hf, hraw, hc]
  exact ⟨rfl, rfl⟩

/-- What COMPH writes is a function of TFINE, the raw count, the coefficients and the parameters. -/
theorem execComph_next (h : execComph s = .next t) :
    t.hNew = (s.tfine.bind fun f => s.rawH.bind fun raw => s.cal.map fun c =>
      (humResult s.cfg f.toInt raw c).1) ∧ t.bus = s.bus := by
  obtain ⟨-, h⟩ := needTfineOf_next h
  obtain ⟨f, hf, h⟩ := need_next h
  obtain ⟨raw, hraw, h⟩ := need_next h
  obtain ⟨c, hc, h⟩ := need_next h
  obtain ⟨u, -, rfl⟩ := advance_next h
  rw [hf, hraw, hc]
  exact ⟨rfl, rfl⟩

/-- Settles O44: each result is a function of the operands the two states share. -/
theorem compensationIsPure : Obligations.CompensationIsPure := by
  intro s s' t t' hcfg hcal
  refine ⟨fun hrawT h h' => ?_, fun htfine hrawP h h' => ?_, fun htfine hrawH h h' => ?_⟩
  · obtain ⟨hf, hnew, hbus⟩ := execCompt_next h
    obtain ⟨hf', hnew', -⟩ := execCompt_next h'
    rw [hf, hf', hnew, hnew', hcfg, hcal, hrawT]
    exact ⟨rfl, rfl, hbus⟩
  · obtain ⟨hnew, hbus⟩ := execCompp_next h
    rw [hnew, (execCompp_next h').1, hcfg, hcal, htfine, hrawP]
    exact ⟨rfl, hbus⟩
  · obtain ⟨hnew, hbus⟩ := execComph_next h
    rw [hnew, (execComph_next h').1, hcfg, hcal, htfine, hrawH]
    exact ⟨rfl, hbus⟩

end Sys2Proof.Machine
end
section
/-! Exact binary64 arithmetic (00_scope.md R16). A number `n / 2^k` whose numerator fits the significand is a binary64
number: an operation with such a result is exact, and no rounding crosses such a number. -/

namespace Sys2Proof.Machine

/-! ## Numbers that round to themselves -/

theorem ulp_eq_inv_two_pow {k : Nat} (hk : k ≤ 1074) : ulp (1074 - k) = 1 / 2 ^ k := by
  have hunit : ulp 1074 = 1 := (ulp_add_bias 0).trans (pow_zero 2)
  rw [eq_div_iff (by positivity), mul_comm, ← ulp_add, Nat.sub_add_cancel hk, hunit]

/-- A whole number of units that fits the significand rounds to itself. -/
theorem F64.round_units (z : Bool) {n : ℤ} {e : Nat} (hn : |n| < 2 ^ 53) (he : e ≤ 2044) :
    F64.isFinite (F64.round z (n * ulp e)) = true ∧ F64.value (F64.round z (n * ulp e)) = n * ulp e := by
  rcases eq_or_ne n 0 with rfl | hne
  · simp
  have hq : (n : ℚ) * ulp e ≠ 0 := mul_ne_zero (Int.cast_ne_zero.2 hne) (ulp_pos e).ne'
  have hn' : |(n : ℚ)| < 2 ^ 53 := by exact_mod_cast hn
  have hexp : roundExp (n * ulp e) ≤ e := by
    by_contra! hgt
    have hle := ulp_roundExp_le_abs hq (by omega)
    have hunit : 2 ^ 1 * ulp e ≤ ulp (roundExp (n * ulp e)) := (ulp_add e 1).symm.trans_le (ulp_mono hgt)
    have hlt : |(n : ℚ) * ulp e| < 2 ^ 53 * ulp e := by
      rw [abs_mul, abs_of_pos (ulp_pos e)]
      exact mul_lt_mul_of_pos_right hn' (ulp_pos e)
    linarith
  have hfin := F64.isFinite_round_of_exp z hq (by omega)
  obtain ⟨d, hd⟩ := Nat.exists_eq_add_of_le hexp
  have hnear := (F64.round_nearest_multiple hq hfin (n * 2 ^ d)).1
  have hsame : ((n * 2 ^ d : ℤ) : ℚ) * ulp (roundExp (n * ulp e)) = n * ulp e := by
    nth_rw 2 [hd]
    rw [ulp_add]
    push_cast
    ring
  rw [hsame, sub_self, abs_zero] at hnear
  exact ⟨hfin, sub_eq_zero.1 (abs_nonpos_iff.1 hnear)⟩

/-- `x` is the binary64 number `q`, with no rounding. -/
def F64.Exact (q : ℚ) (x : F64) : Prop := F64.isFinite x = true ∧ F64.value x = q

section
variable {q b : ℚ} {n : ℤ} {k : Nat}

theorem F64.exact_round (z : Bool) (hq : q = n / 2 ^ k) (hn : |n| < 2 ^ 53) (hk : k ≤ 1074) :
    F64.Exact q (F64.round z q) := by
  have hunits := F64.round_units z hn (e := 1074 - k) (by omega)
  rwa [ulp_eq_inv_two_pow hk, mul_one_div, ← hq] at hunits

/-- A rounding does not cross the number `b` away from zero. -/
theorem F64.abs_value_round_le (z : Bool) (hq : |q| ≤ b) (hb : b = n / 2 ^ k) (hn : |n| < 2 ^ 53) (hk : k ≤ 1074) :
    F64.isFinite (F64.round z q) = true ∧ |F64.value (F64.round z q)| ≤ b := by
  obtain ⟨hfinB, hvalB⟩ := F64.exact_round false hb hn hk
  have hsize : b ≤ 2 ^ 53 := by
    have hn' : (n : ℚ) ≤ 2 ^ 53 := by exact_mod_cast (lt_of_abs_lt hn).le
    rw [hb, div_le_iff₀ (by positivity)]
    exact hn'.trans (le_mul_of_one_le_right (by positivity) (one_le_pow₀ one_le_two))
  have hfin := (F64.within_round z (k := 53) (by omega) (hq.trans hsize)).1
  obtain ⟨hlow, hhigh⟩ := abs_le.1 hq
  have hup := F64.value_round_le hfin hfinB (by rwa [hvalB])
  have hdown := F64.le_value_round hfin ((F64.isFinite_neg _).trans hfinB) (by rwa [F64.value_neg hfinB, hvalB])
  rw [hvalB] at hup
  rw [F64.value_neg hfinB, hvalB] at hdown
  exact ⟨hfin, abs_le.2 ⟨hdown, hup⟩⟩

/-- A rounding does not cross the number `b` towards zero. -/
theorem F64.le_abs_value_round {z : Bool} (hfin : F64.isFinite (F64.round z q) = true) (hq : b ≤ |q|)
    (hb : b = n / 2 ^ k) (hn : |n| < 2 ^ 53) (hk : k ≤ 1074) : b ≤ |F64.value (F64.round z q)| := by
  obtain ⟨hfinB, hvalB⟩ := F64.exact_round false hb hn hk
  rcases abs_cases q with ⟨habs, -⟩ | ⟨habs, -⟩
  · have hdown := F64.le_value_round hfin hfinB (by rwa [hvalB, ← habs])
    rw [hvalB] at hdown
    exact hdown.trans (le_abs_self _)
  · have hup := F64.value_round_le hfin ((F64.isFinite_neg _).trans hfinB)
      (by rw [F64.value_neg hfinB, hvalB]; linarith)
    rw [F64.value_neg hfinB, hvalB] at hup
    exact (le_neg.1 hup).trans (neg_le_abs _)

end

/-! ## Exact operations -/

theorem F64.isZero_iff {a : F64} (ha : F64.isFinite a = true) : F64.isZero a = true ↔ F64.value a = 0 := by
  simp only [F64.isZero, F64.unpack_of_isFinite ha, decide_eq_true_eq]

section
variable {p q : ℚ} {a b : F64} {n : ℤ} {k : Nat}

theorem F64.exact_ofInt (hn : |n| < 2 ^ 53) : F64.Exact n (F64.ofInt n) := F64.ofInt_exact hn

theorem F64.Exact.sub (ha : F64.Exact p a) (hb : F64.Exact q b) (hpq : p - q = n / 2 ^ k) (hn : |n| < 2 ^ 53)
    (hk : k ≤ 1074) : F64.Exact (p - q) (F64.sub a b) := by
  rw [F64.sub_eq_round ha.1 hb.1, ha.2, hb.2]
  exact F64.exact_round _ hpq hn hk

theorem F64.Exact.mul (ha : F64.Exact p a) (hb : F64.Exact q b) (hpq : p * q = n / 2 ^ k) (hn : |n| < 2 ^ 53)
    (hk : k ≤ 1074) : F64.Exact (p * q) (F64.mul a b) := by
  rw [F64.mul_eq_round ha.1 hb.1, ha.2, hb.2]
  exact F64.exact_round _ hpq hn hk

theorem F64.div_lit_eq_round (ha : F64.isFinite a = true) {m : Nat} (hm : 1 ≤ m) (hm' : m < 2 ^ 53) :
    ∃ z, F64.div a (F64.lit m) = F64.round z (F64.value a / m) := by
  obtain ⟨hfin, hval⟩ := F64.lit_exact hm'
  have hne : ¬F64.isZero (F64.lit m) = true := by
    rw [F64.isZero_iff hfin, hval, Nat.cast_eq_zero]
    omega
  rw [F64.div_eq_round ha hfin (eq_false_of_ne_true hne), hval]
  exact ⟨_, rfl⟩

/-- Dividing an integer by a power of two is exact. -/
theorem F64.exact_ofInt_div_lit (hn : |n| < 2 ^ 53) {m : Nat} (k : Nat) (hm : m = 2 ^ k) (hk : k < 53) :
    F64.Exact (n / 2 ^ k) (F64.div (F64.ofInt n) (F64.lit m)) := by
  obtain ⟨hfin, hval⟩ := F64.ofInt_exact hn
  obtain ⟨z, hround⟩ := F64.div_lit_eq_round hfin (m := m) (hm ▸ Nat.one_le_two_pow)
    (hm ▸ Nat.pow_lt_pow_right one_lt_two hk)
  rw [hround, hval, hm, Nat.cast_pow, Nat.cast_ofNat]
  exact F64.exact_round z rfl hn (by omega)

end

end Sys2Proof.Machine
end

section
/-! The temperature datapath in binary64 (42_compensation_double.md R245 to R247, R265): the roundings of TFINE, and
bounds that hold for every input. The differences and `var1` are exact, so the strict bounds survive the later
roundings. -/

namespace Sys2Proof.Machine

/-! ## The roundings of TFINE (R246) -/

section
variable {x : F64} (hx : F64.isFinite x = true)
include hx

theorem tfineRound_floor : tfineRound .floor x = ⌊F64.value x⌋ := by
  rw [tfineRound, F64.floor, F64.unpack_of_isFinite hx]
  rfl

theorem tfineRound_trunc :
    tfineRound .trunc x = if F64.value x < 0 then ⌈F64.value x⌉ else ⌊F64.value x⌋ := by
  rw [tfineRound, F64.trunc, F64.unpack_of_isFinite hx]
  split_ifs with hneg
  · have hnum := (Rat.num_neg.2 hneg).le
    rw [Rat.ceil_def', ← Int.tdiv_eq_ediv_of_nonneg (by omega), Int.neg_tdiv, neg_neg]
  · rw [Rat.floor_def']
    exact Int.tdiv_eq_ediv_of_nonneg (Rat.num_nonneg.2 (not_lt.1 hneg))

/-- Below zero TRUNC is one above FLOOR off the integers. -/
theorem tfineRound_trunc_of_neg (hneg : F64.value x < 0) (hint : ∀ n : ℤ, F64.value x ≠ n) :
    tfineRound .trunc x = tfineRound .floor x + 1 := by
  rw [tfineRound_trunc hx, if_pos hneg, tfineRound_floor hx, Int.ceil_eq_floor_add_one_iff_notMem]
  rintro ⟨n, hn⟩
  exact hint n hn.symm

/-- Elsewhere the two roundings agree. -/
theorem tfineRound_trunc_of_not_neg (h : ¬(F64.value x < 0 ∧ ∀ n : ℤ, F64.value x ≠ n)) :
    tfineRound .trunc x = tfineRound .floor x := by
  rw [tfineRound_trunc hx, tfineRound_floor hx]
  split_ifs with hneg
  · obtain ⟨n, hn⟩ : ∃ n : ℤ, F64.value x = n := by simpa [hneg] using h
    rw [hn, Int.ceil_intCast, Int.floor_intCast]
  · rfl

/-- Either rounding stays within a whole bound of the number. -/
theorem abs_tfineRound_le (r : TfineRounding) {b : ℤ} (hb : |F64.value x| ≤ b) : |tfineRound r x| ≤ b := by
  obtain ⟨hlow, hhigh⟩ := abs_le.1 hb
  have hfloor : -b ≤ ⌊F64.value x⌋ := Int.le_floor.2 (by exact_mod_cast hlow)
  have hceil : ⌈F64.value x⌉ ≤ b := Int.ceil_le.2 hhigh
  have hle := Int.floor_le_ceil (F64.value x)
  have hround : tfineRound r x = ⌊F64.value x⌋ ∨ tfineRound r x = ⌈F64.value x⌉ := by
    cases r with
    | floor => exact .inl (tfineRound_floor hx)
    | trunc =>
      rw [tfineRound_trunc hx]
      split_ifs
      · exact .inr rfl
      · exact .inl rfl
  rw [abs_le]
  omega

end

/-- Settles O37: below zero and off the integers TRUNC is the ceiling, and everywhere else the floor. -/
theorem tfineRoundings : Obligations.TfineRoundings := by
  refine ⟨rfl, fun x hx => ⟨tfineRound_floor hx, tfineRound_trunc hx, ?_⟩⟩
  by_cases h : F64.value x < 0 ∧ ∀ n : ℤ, F64.value x ≠ n
  · have hdiff := tfineRound_trunc_of_neg hx h.1 h.2
    exact ⟨iff_of_true (by omega) h, fun _ => by omega⟩
  · have hsame := tfineRound_trunc_of_not_neg hx h
    exact ⟨iff_of_false (fun hne => hne hsame.symm) h, fun hne => absurd hsame.symm hne⟩

/-! ## The datapath -/

/-- The difference that both terms of R245 scale: `var1` by `2^-14`, the base of `var2` by `2^-17`. -/
def tDelta (raw : BitVec 20) (c : Cal) : ℤ := raw.toNat - 16 * Cal.t1 c

theorem abs_tDelta_lt (raw : BitVec 20) (c : Cal) : |tDelta raw c| < 2 ^ 20 := by
  have hraw := raw.isLt
  have ht1 := c.digT1.isLt
  rw [tDelta, Cal.t1, abs_lt]
  omega

theorem abs_toInt_le {w : Nat} (x : BitVec (w + 1)) : |x.toInt| ≤ 2 ^ w :=
  abs_le.2 ⟨by simpa using x.le_toInt, by simpa using x.toInt_lt.le⟩

/-- The scaled difference of the raw count and `dig_T1` is exact. -/
theorem exact_tDelta (raw : BitVec 20) (c : Cal) {m m' : Nat} (k : Nat) (hm : m = 2 ^ (k + 4)) (hm' : m' = 2 ^ k)
    (hk : k < 49) :
    F64.Exact (tDelta raw c / 2 ^ (k + 4))
      (F64.sub (F64.div (F64.ofInt raw.toNat) (F64.lit m)) (F64.div (F64.ofInt (Cal.t1 c)) (F64.lit m'))) := by
  have hraw := raw.isLt
  have ht1 := c.digT1.isLt
  have hraw' := F64.exact_ofInt_div_lit (n := raw.toNat) (by rw [abs_lt]; omega) (k + 4) hm (by omega)
  have ht1' := F64.exact_ofInt_div_lit (n := Cal.t1 c) (by rw [Cal.t1, abs_lt]; omega) k hm' (by omega)
  have hdiff : ((raw.toNat : ℤ) : ℚ) / 2 ^ (k + 4) - (Cal.t1 c : ℚ) / 2 ^ k = tDelta raw c / 2 ^ (k + 4) := by
    rw [tDelta, pow_add]
    push_cast
    field_simp
    ring
  rw [← hdiff]
  exact hraw'.sub ht1' hdiff ((abs_tDelta_lt raw c).trans (by norm_num)) (by omega)

/-- `var1` is exact: 36 bits are enough for its numerator. -/
theorem exact_tVar1 (raw : BitVec 20) (c : Cal) :
    F64.Exact (tDelta raw c / 2 ^ 14 * Cal.t2 c) (tVar1 raw c) := by
  have hdelta := abs_tDelta_lt raw c
  have ht2 := abs_toInt_le (w := 15) c.digT2
  refine (exact_tDelta raw c 10 rfl rfl (by omega)).mul (n := tDelta raw c * Cal.t2 c) (k := 14)
    (F64.exact_ofInt (ht2.trans_lt (by norm_num))) ?_ ?_ (by omega)
  · push_cast
    ring
  · rw [abs_mul]
    calc |tDelta raw c| * |Cal.t2 c| ≤ 2 ^ 20 * 2 ^ 15 := mul_le_mul hdelta.le ht2 (abs_nonneg _) (by norm_num)
      _ < 2 ^ 53 := by norm_num

theorem abs_value_tVar1_le (raw : BitVec 20) (c : Cal) : |F64.value (tVar1 raw c)| ≤ 2 ^ 21 - 2 := by
  have hdelta : |(tDelta raw c : ℚ)| ≤ 2 ^ 20 - 1 := by
    exact_mod_cast Int.le_sub_one_of_lt (abs_tDelta_lt raw c)
  have ht2 : |(Cal.t2 c : ℚ)| ≤ 2 ^ 15 := by exact_mod_cast abs_toInt_le (w := 15) c.digT2
  rw [(exact_tVar1 raw c).2, abs_mul, abs_div, abs_of_pos (by positivity : (0 : ℚ) < 2 ^ 14)]
  calc |(tDelta raw c : ℚ)| / 2 ^ 14 * |(Cal.t2 c : ℚ)|
      ≤ (2 ^ 20 - 1) / 2 ^ 14 * 2 ^ 15 := by gcongr
    _ = 2 ^ 21 - 2 := by norm_num

/-- The base of `var2` lies within 8, so `var2` within `8 * 8 * 2^15`. -/
theorem within_tVar2 (raw : BitVec 20) (c : Cal) : F64.Within 21 (tVar2 raw c) := by
  obtain ⟨hfin, hval⟩ := exact_tDelta raw c 13 (m := 131072) (m' := 8192) rfl rfl (by omega)
  have hdelta : |(tDelta raw c : ℚ)| ≤ 2 ^ 20 := by exact_mod_cast (abs_tDelta_lt raw c).le
  have hbase : F64.Within 3 _ := ⟨hfin, by
    rw [hval, abs_div, abs_of_pos (by positivity : (0 : ℚ) < 2 ^ 17), div_le_iff₀ (by positivity)]
    exact hdelta.trans (by norm_num)⟩
  exact (hbase.mul hbase).mul (F64.within_ofInt_toInt c.digT3)

/-- The sum stays below `2^22`: `2^22 - 2` is a number, which the rounding does not cross. -/
theorem tSum_bound (raw : BitVec 20) (c : Cal) :
    F64.isFinite (tSum raw c) = true ∧ |F64.value (tSum raw c)| ≤ 2 ^ 22 - 2 := by
  have hvar1 := abs_value_tVar1_le raw c
  obtain ⟨hfin2, hvar2⟩ := within_tVar2 raw c
  have hsum : |F64.value (tVar1 raw c) + F64.value (tVar2 raw c)| ≤ 2 ^ 22 - 2 :=
    (abs_add_le _ _).trans (by linarith)
  rw [tSum, F64.add_eq_round (exact_tVar1 raw c).1 hfin2]
  exact F64.abs_value_round_le _ hsum (n := 2 ^ 22 - 2) (k := 0) (by norm_num) (by norm_num) (by omega)

/-- `(2^22 - 2) / 5120` is below 819.5, a number. -/
theorem tNewOf_bound (raw : BitVec 20) (c : Cal) :
    F64.isFinite (tNewOf (tSum raw c)) = true ∧ |F64.value (tNewOf (tSum raw c))| ≤ 1639 / 2 := by
  obtain ⟨hfin, hsum⟩ := tSum_bound raw c
  obtain ⟨z, hround⟩ := F64.div_lit_eq_round hfin (m := 5120) (by omega) (by omega)
  have hquot : |F64.value (tSum raw c) / (5120 : ℕ)| ≤ 1639 / 2 := by
    rw [abs_div, Nat.abs_cast, Nat.cast_ofNat, div_le_iff₀ (by norm_num)]
    exact hsum.trans (by norm_num)
  rw [tNewOf, hround]
  exact F64.abs_value_round_le z hquot (n := 1639) (k := 1) (by norm_num) (by norm_num) (by omega)

/-- Settles O36: `var1` is exact, `var2` within `2^21`, and their sum within `2^22 - 2`. -/
theorem tfineFits : Obligations.TfineFits := by
  intro raw c r
  obtain ⟨hfinSum, hsum⟩ := tSum_bound raw c
  obtain ⟨hfinNew, hnew⟩ := tNewOf_bound raw c
  obtain ⟨hfinVar2, hvar2⟩ := within_tVar2 raw c
  have htfine : |tfineRound r (tSum raw c)| ≤ 2 ^ 22 - 2 :=
    abs_tfineRound_le hfinSum r (by exact_mod_cast hsum)
  obtain ⟨hlow, hhigh⟩ := abs_le.1 htfine
  refine ⟨(exact_tVar1 raw c).1, (abs_value_tVar1_le raw c).trans_lt (by norm_num), hfinVar2, hvar2, hfinSum,
    hsum.trans_lt (by norm_num), BitVec.toInt_ofInt_eq_self (by decide) (by omega) (by omega),
    (F64.ofInt_exact (htfine.trans_lt (by norm_num))).2, hfinNew, hnew.trans_lt (by norm_num)⟩

end Sys2Proof.Machine
end

section
/-! The pressure datapath in binary64 (42_compensation_double.md R250 to R252): its denominator is zero or at least
`2^-53`, so the quotient is bounded by powers of two like every other operation. -/

namespace Sys2Proof.Machine

/-- A denominator of at least `2^-k` grows a quotient by at most `k` binary places. -/
theorem F64.Within.div {j k : Nat} {a b : F64} (ha : F64.Within j a) (hb : F64.isFinite b = true)
    (hlow : 1 / 2 ^ k ≤ |F64.value b|) (hk : j + k ≤ 1023 := by omega) : F64.Within (j + k) (F64.div a b) := by
  have hpos : 0 < |F64.value b| := (by positivity : (0 : ℚ) < 1 / 2 ^ k).trans_le hlow
  have hne : ¬F64.isZero b = true := by
    rw [F64.isZero_iff hb]
    exact abs_pos.1 hpos
  rw [F64.div_eq_round ha.1 hb (eq_false_of_ne_true hne)]
  refine F64.within_round _ hk ?_
  rw [abs_div, div_le_iff₀ hpos]
  calc |F64.value a| ≤ 2 ^ j := ha.2
    _ = 2 ^ (j + k) * (1 / 2 ^ k) := by rw [pow_add]; field_simp
    _ ≤ 2 ^ (j + k) * |F64.value b| := by gcongr

/-- `1 + x` in exact arithmetic is zero or at least `2^-53`: near -1 the binary64 numbers are multiples of it. -/
theorem one_add_value_eq_zero_or_ge {x : F64} (hx : F64.isFinite x = true) :
    1 + F64.value x = 0 ∨ 1 / 2 ^ 53 ≤ |1 + F64.value x| := by
  have hunit : ulp 1021 = 1 / 2 ^ 53 := ulp_eq_inv_two_pow (k := 53) (by omega)
  rcases F64.value_on_grid hx 1021 with ⟨m, hm⟩ | ⟨-, hsmall⟩
  · have hmul : 1 + F64.value x = ((2 ^ 53 + m : ℤ) : ℚ) * (1 / 2 ^ 53) := by
      rw [hm, hunit]
      push_cast
      ring
    rcases eq_or_ne (2 ^ 53 + m) 0 with hzero | hne
    · exact .inl (by rw [hmul, hzero, Int.cast_zero, zero_mul])
    · have hone : (1 : ℚ) ≤ |((2 ^ 53 + m : ℤ) : ℚ)| := by exact_mod_cast Int.one_le_abs hne
      rw [hmul, abs_mul, abs_of_pos (by positivity : (0 : ℚ) < 1 / 2 ^ 53)]
      exact .inr (le_mul_of_one_le_left (by positivity) hone)
  · rw [hunit] at hsmall
    obtain ⟨hlow, -⟩ := abs_lt.1 hsmall
    exact .inr (le_trans (by linarith) (le_abs_self _))

theorem F64.one_add_eq_zero_or_ge {x : F64} (hx : F64.Within 62 x) :
    F64.Within 63 (F64.add (F64.lit 1) x) ∧
      (F64.value (F64.add (F64.lit 1) x) = 0 ∨ 1 / 2 ^ 53 ≤ |F64.value (F64.add (F64.lit 1) x)|) := by
  obtain ⟨hfin1, hval1⟩ := F64.lit_exact (n := 1) (by norm_num)
  have hwithin := (F64.within_lit 0 (n := 1)).add hx
  refine ⟨hwithin, ?_⟩
  have hround := F64.add_eq_round hfin1 hx.1
  rw [hval1, Nat.cast_one] at hround
  have hfin := hwithin.1
  rw [hround] at hfin ⊢
  rcases one_add_value_eq_zero_or_ge hx.1 with hzero | hge
  · rw [hzero, F64.round_zero, F64.value_zero]
    exact .inl rfl
  · exact .inr (F64.le_abs_value_round hfin hge (n := 1) (k := 53) (by norm_num) (by norm_num) (by omega))

section
variable (sgn : Signedness) {f : Int} (c : Cal)

theorem abs_p1_le : |Cal.p1 sgn c| ≤ 2 ^ 16 := by
  have hnat := c.digP1.isLt
  have hint := abs_le.1 (abs_toInt_le (w := 15) c.digP1)
  rw [abs_le]
  cases sgn <;> simp only [Cal.p1] <;> omega

variable (hf : |f| < 2 ^ 22)
include hf

theorem pV1_within : F64.Within 23 (pV1 f) :=
  ((F64.within_ofInt (by omega) hf.le).divLit 2).sub (F64.within_lit 16 (n := 64000))

theorem pV2_within : F64.Within 63 (pV2 f c) := by
  have v1 := pV1_within hf
  have a := ((v1.mul v1).mul (F64.within_ofInt_toInt c.digP6)).divLit 32768
  have b := a.add ((v1.mul (F64.within_ofInt_toInt c.digP5)).mul (F64.within_lit 1 (n := 2)))
  exact (b.divLit 4).add ((F64.within_ofInt_toInt c.digP4).mul (F64.within_lit 16 (n := 65536)))

/-- The denominator of R250 is `dig_P1` scaled by `1 + x`. -/
theorem pDenominator_eq : ∃ x, F64.Within 62 x ∧
    pDenominator sgn f c = F64.mul (F64.add (F64.lit 1) x) (F64.ofInt (Cal.p1 sgn c)) := by
  have v1 := pV1_within hf
  have cubic := (((F64.within_ofInt_toInt c.digP3).mul v1).mul v1).divLit 524288
  have w := (cubic.add ((F64.within_ofInt_toInt c.digP2).mul v1)).divLit 524288
  exact ⟨_, w.divLit 32768, rfl⟩

/-- The denominator is finite, and zero or at least `2^-53`. -/
theorem pDenominator_eq_zero_or_ge : F64.isFinite (pDenominator sgn f c) = true ∧
    (F64.value (pDenominator sgn f c) = 0 ∨ 1 / 2 ^ 53 ≤ |F64.value (pDenominator sgn f c)|) := by
  obtain ⟨x, hx, hden⟩ := pDenominator_eq sgn c hf
  obtain ⟨hscale, hcases⟩ := F64.one_add_eq_zero_or_ge hx
  have hp1 := F64.within_ofInt (k := 16) (by omega) (abs_p1_le sgn c)
  have hval1 := (F64.ofInt_exact ((abs_p1_le sgn c).trans_lt (by norm_num))).2
  have hfin := (hscale.mul hp1).1
  have hround := F64.mul_eq_round hscale.1 hp1.1
  rw [hval1] at hround
  rw [hden]
  refine ⟨hfin, ?_⟩
  rw [hround] at hfin ⊢
  rcases eq_or_ne (Cal.p1 sgn c) 0 with hzero | hne
  · rw [hzero, Int.cast_zero, mul_zero, F64.round_zero, F64.value_zero]
    exact .inl rfl
  rcases hcases with hzero | hge
  · rw [hzero, zero_mul, F64.round_zero, F64.value_zero]
    exact .inl rfl
  · have hone : (1 : ℚ) ≤ |(Cal.p1 sgn c : ℚ)| := by exact_mod_cast Int.one_le_abs hne
    have hprod : 1 / 2 ^ 53 ≤ |F64.value (F64.add (F64.lit 1) x) * Cal.p1 sgn c| := by
      rw [abs_mul]
      exact hge.trans (le_mul_of_one_le_right (abs_nonneg _) hone)
    exact .inr (F64.le_abs_value_round hfin hprod (n := 1) (k := 53) (by norm_num) (by norm_num) (by omega))

/-- With `dig_P1 = 0` the denominator is zero, whatever it scales. -/
theorem isZero_pDenominator (hp1 : Cal.p1 sgn c = 0) : F64.isZero (pDenominator sgn f c) = true := by
  obtain ⟨x, hx, hden⟩ := pDenominator_eq sgn c hf
  have hscale := (F64.one_add_eq_zero_or_ge hx).1
  obtain ⟨hfin0, hval0⟩ := F64.ofInt_exact (n := 0) (by norm_num)
  rw [hden, hp1, F64.mul_eq_round hscale.1 hfin0, hval0, Int.cast_zero, mul_zero, F64.round_zero,
    F64.isZero_iff (F64.isFinite_zero _), F64.value_zero]

/-- The quotient and its correction stay below `2^278` over a denominator of at least `2^-53`. -/
theorem pQuotient_within (raw : BitVec 20) {den : F64} (hden : F64.isFinite den = true)
    (hlow : 1 / 2 ^ 53 ≤ |F64.value den|) : F64.Within 278 (pQuotient den f raw c) := by
  have p0 := (F64.within_lit 20 (n := 1048576)).sub (F64.within_ofInt_toNat raw)
  have num := (p0.sub ((pV2_within c hf).divLit 4096)).mul (F64.within_lit 13 (n := 6250))
  have p := num.div hden hlow
  have v1 := (((F64.within_ofInt_toInt c.digP9).mul p).mul p).divLit 2147483648
  have v2 := (p.mul (F64.within_ofInt_toInt c.digP8)).divLit 32768
  exact p.add (((v1.add v2).add (F64.within_ofInt_toInt c.digP7)).divLit 16)

end

/-- Settles O39: a denominator that is not zero is at least `2^-53`, and `dig_P1 = 0` makes it zero. -/
theorem pressureFinite : Obligations.PressureFinite := by
  refine ⟨fun sgn f raw c hf => ?_, fun sgn f raw c hf hp1 => ?_⟩
  · obtain ⟨hfin, hcases⟩ := pDenominator_eq_zero_or_ge sgn c hf
    rw [pNewOf]
    split_ifs with hzero
    · exact F64.isFinite_zero false
    · rw [F64.isZero_iff hfin] at hzero
      exact (pQuotient_within c hf raw hfin (hcases.resolve_left hzero)).1
  · have hp1' : Cal.p1 sgn c = 0 := by
      cases sgn <;> simp [Cal.p1, hp1]
    exact if_pos (isZero_pDenominator sgn c hf hp1')

end Sys2Proof.Machine
end
section
/-! The integer variants (43_compensation_fixed.md): the values of the primitives (00_scope.md R15), the whole next
state of COMPT, COMPP and COMPH on written operands (R281, R285, R290, R295, R300), and the ranges of the integer words
(R280). -/

namespace Sys2Proof.Machine

/-! ## The primitives (R15) -/

/-- Wrapping to `w + 1` bits gives the congruent number between `-2^w` and `2^w`. -/
theorem bmod_two_pow_succ (v : Int) (w : Nat) :
    -2 ^ w ≤ v.bmod (2 ^ (w + 1)) ∧ v.bmod (2 ^ (w + 1)) < 2 ^ w ∧
      (2 : Int) ^ (w + 1) ∣ v.bmod (2 ^ (w + 1)) - v := by
  have hpos : 0 < 2 ^ (w + 1) := Nat.two_pow_pos _
  have hlow := Int.le_bmod (x := v) hpos
  have hhigh := Int.bmod_lt (x := v) hpos
  have hdvd := Int.dvd_bmod_sub_self (x := v) (m := 2 ^ (w + 1))
  push_cast at hlow hhigh hdvd
  have hhalf : (2 : Int) ^ (w + 1) = 2 * 2 ^ w := pow_succ' 2 w
  exact ⟨by omega, by omega, hdvd⟩

theorem wrap32_range (v : Int) : -2 ^ 31 ≤ wrap32 v ∧ wrap32 v < 2 ^ 31 := by
  obtain ⟨hlow, hhigh, -⟩ := bmod_two_pow_succ v 31
  exact ⟨hlow, hhigh⟩

theorem uwrap32_range (v : Int) : 0 ≤ uwrap32 v ∧ uwrap32 v < 2 ^ 32 :=
  ⟨Int.emod_nonneg v (by decide), Int.emod_lt_of_pos v (by decide)⟩

/-! In a sum, a difference or a product a wrap of the first operand drops out under the wrap of the result. -/

theorem wrap32_wrap32_add (a b : Int) : wrap32 (wrap32 a + b) = wrap32 (a + b) := Int.bmod_add_bmod

theorem wrap32_wrap32_sub (a b : Int) : wrap32 (wrap32 a - b) = wrap32 (a - b) := Int.bmod_sub_bmod

theorem wrap32_wrap32_mul (a b : Int) : wrap32 (wrap32 a * b) = wrap32 (a * b) := Int.bmod_mul_bmod

theorem wrap64_wrap64_add (a b : Int) : wrap64 (wrap64 a + b) = wrap64 (a + b) := Int.bmod_add_bmod

theorem asr_eq_floor (v : Int) (n : Nat) : asr v n = ⌊(v : ℚ) / 2 ^ n⌋ := by
  have h := Rat.floor_intCast_div_natCast v (2 ^ n)
  push_cast at h
  exact h.symm

/-- The quotient toward zero is the floor or the ceiling by the sign of the exact quotient; a zero divisor gives 0. -/
theorem tdiv_natCast_eq_floor_or_ceil (a : Int) (n : Nat) :
    a.tdiv n = if 0 ≤ (a : ℚ) / n then ⌊(a : ℚ) / n⌋ else ⌈(a : ℚ) / n⌉ := by
  obtain rfl | hn := n.eq_zero_or_pos
  · simp
  have hn' : (0 : ℚ) < n := by exact_mod_cast hn
  rcases le_or_gt 0 a with ha | ha
  · rw [if_pos (div_nonneg (by exact_mod_cast ha) hn'.le), Rat.floor_intCast_div_natCast,
      Int.tdiv_eq_ediv_of_nonneg ha]
  · rw [if_neg (div_neg_of_neg_of_pos (by exact_mod_cast ha) hn').not_ge, Rat.ceil_intCast_div_natCast,
      ← Int.tdiv_eq_ediv_of_nonneg (by omega), Int.neg_tdiv, neg_neg]

theorem tdiv_eq_floor_or_ceil (a b : Int) :
    a.tdiv b = if 0 ≤ (a : ℚ) / b then ⌊(a : ℚ) / b⌋ else ⌈(a : ℚ) / b⌉ := by
  obtain ⟨n, rfl | rfl⟩ := Int.eq_nat_or_neg b
  · exact_mod_cast tdiv_natCast_eq_floor_or_ceil a n
  · have hquot : (a : ℚ) / (-(n : Int) : Int) = (-a : Int) / n := by
      push_cast
      rw [div_neg, neg_div]
    rw [hquot, Int.tdiv_neg, ← Int.neg_tdiv]
    exact tdiv_natCast_eq_floor_or_ceil (-a) n

theorem udiv_eq_floor (a : Int) {b : Int} (hb : 0 < b) : udiv a b = ⌊(a : ℚ) / b⌋ := by
  lift b to Nat using hb.le
  exact_mod_cast (Rat.floor_intCast_div_natCast a b).symm

/-! ## The integer results (R281, R285, R290, R295) -/

section
variable {p : BcbConfig}

theorem tempResult_integer (hp : p.compVariant ≠ .double) (raw : BitVec 20) (c : Cal) :
    tempResult p raw c =
      (tfineFixed raw c, tNewFixed (tIntOf (tfineFixed raw c)), some (tIntOf (tfineFixed raw c))) := by
  unfold tempResult
  split
  · contradiction
  · rfl
  · rfl

theorem pressResult_int64p (hp : p.compVariant = .int64p) (f : Int) (raw : BitVec 20) (c : Cal) :
    pressResult p f raw c =
      (pNewFixed64 (pIntOf64 p.p1Signedness f raw c), some (pIntOf64 p.p1Signedness f raw c)) := by
  rw [pressResult, hp]

theorem pressResult_int32p (hp : p.compVariant = .int32p) (f : Int) (raw : BitVec 20) (c : Cal) :
    pressResult p f raw c =
      (pNewFixed32 (pIntOf32 p.p1Signedness f raw c), some (pIntOf32 p.p1Signedness f raw c)) := by
  rw [pressResult, hp]

theorem humResult_integer (hp : p.compVariant ≠ .double) (f : Int) (raw : BitVec 16) (c : Cal) :
    humResult p f raw c = (hNewFixed (hIntOf f raw c), some (hIntOf f raw c)) := by
  unfold humResult
  split
  · contradiction
  · rfl
  · rfl

end

theorem tIntOf_eq (tfine : Int) : tIntOf tfine = asr (wrap32 (tfine * 5 + 128)) 8 := by
  rw [tIntOf, wrap32_wrap32_add]

/-- The clamp of R295 in either order of its comparisons. -/
theorem clampH_eq (x : Int) :
    (if (if x < 0 then 0 else x) > 419430400 then 419430400 else if x < 0 then 0 else x) =
      if x < 0 then 0 else if 419430400 < x then 419430400 else x := by
  split_ifs <;> omega

theorem hIntOf_eq (f : Int) (raw : BitVec 16) (c : Cal) :
    hIntOf f raw c =
      asr (if hFixedUnclamped f raw c < 0 then 0
        else if 419430400 < hFixedUnclamped f raw c then 419430400 else hFixedUnclamped f raw c) 12 :=
  congrArg (asr · 12) (clampH_eq _)

/-- Settles O42: each intermediate is that of the datapath, up to a wrap under the next wrap. -/
theorem integerVariantsComplete : Obligations.IntegerVariantsComplete := by
  refine ⟨fun v => bmod_two_pow_succ v 31, fun v => bmod_two_pow_succ v 63,
    fun v => and_assoc.1 ⟨uwrap32_range v, Int.dvd_emod_sub_self⟩,
    fun v n => ⟨asr_eq_floor v n, asr_eq_floor v n, rfl, rfl⟩,
    fun a b => ⟨congrArg wrap64 (tdiv_eq_floor_or_ceil a b), fun _ hb => udiv_eq_floor a hb⟩,
    ?compt, ?int64p, ?int32p, ?comph⟩
  case compt =>
    intro s u raw c d1 var1 d2 var2 tfine tInt hu hraw hc hv hd1 hvar1 hd2 hvar2 htfine htInt
    have hfixed : tfineFixed raw c = tfine := by
      rw [htfine, hvar2, hd2, hvar1, hd1]
      rfl
    have hword : tIntOf tfine = tInt := (tIntOf_eq tfine).trans htInt.symm
    rw [exec, execCompt_of hu hraw hc (tempResult_integer hv raw c), hfixed, hword]
    rfl
  case int64p =>
    intro s u f raw c p1 v1 v2 den p q pInt hu hf hraw hc hgen hv hp1 hv1 hv2 hden hp hq hpInt
    have hv2' : pV2Int64 f.toInt c = v2 := by
      rw [hv2, hv1]
      rfl
    have hden' : pDenominatorInt64 s.cfg.p1Signedness f.toInt c = den := by
      rw [hden, hp1, hv1]
      rfl
    have hword : pIntOf64 s.cfg.p1Signedness f.toInt raw c = pInt := by
      simp only [pIntOf64, hden', hv2', ← hp, wrap64_wrap64_add (_ + _)]
      rw [hpInt, hq]
      rfl
    rw [exec, execCompp_of hu hf hraw hc hgen (pressResult_int64p hv f.toInt raw c), hword]
    rfl
  case int32p =>
    intro s u f raw c p1 v1 q v2 den u0 u1 u2 w1 w2 pInt hu hf hraw hc hgen hv hp1 hv1 hq hv2 hden hu0 hu1 hu2 hw1 hw2
      hpInt
    have hv2' : pV2Int32 f.toInt c = v2 := by
      rw [hv2, hq, hv1]
      rfl
    have hden' : pDenominatorInt32 s.cfg.p1Signedness f.toInt c = den := by
      rw [hden, hq, hp1, hv1, pDenominatorInt32, wrap32_wrap32_mul]
      rfl
    have hword : pIntOf32 s.cfg.p1Signedness f.toInt raw c = pInt := by
      simp only [pIntOf32, hden', hv2', ← hu0, ← hu1, ← hu2, wrap32_wrap32_add (_ + _)]
      rw [hpInt, hw2, hw1]
      rfl
    rw [exec, execCompp_of hu hf hraw hc hgen (pressResult_int32p hv f.toInt raw c), hword]
    rfl
  case comph =>
    intro s u f raw c x a b k b' y z hInt hu hf hraw hc hgen hv hx ha hb hk hb' hy hz hhInt
    have hvalue : hFixedUnclamped f.toInt raw c = z := by
      simp only [hFixedUnclamped, ← hx, wrap32_wrap32_sub (_ - _)]
      rw [hz, hy, hb', hk, hb, ha]
      rfl
    have hword : hIntOf f.toInt raw c = hInt := by rw [hIntOf_eq, hvalue, hhInt]
    rw [exec, execComph_of hu hf hraw hc hgen (humResult_integer hv f.toInt raw c), hword]
    rfl

/-! ## The ranges of the integer words (R280) -/

theorem toInt_ofInt_wrap32 (v : Int) : (BitVec.ofInt 32 (wrap32 v)).toInt = wrap32 v := by
  rw [BitVec.toInt_ofInt]
  exact Int.bmod_bmod

theorem toInt_ofInt_asr_wrap32 (v : Int) (n : Nat) :
    (BitVec.ofInt 32 (asr (wrap32 v) n)).toInt = asr (wrap32 v) n := by
  obtain ⟨hlow, hhigh⟩ := wrap32_range v
  have hone : (1 : Int) ≤ 2 ^ n := one_le_pow₀ (by decide)
  refine BitVec.toInt_ofInt_eq_self (by decide) ?_ ?_
  · rw [asr, Int.le_ediv_iff_mul_le (by omega)]
    omega
  · rw [asr, Int.ediv_lt_iff_lt_mul (by omega)]
    omega

theorem toNat_ofInt_of_range {v : Int} (hv : 0 ≤ v ∧ v < 2 ^ 32) : ((BitVec.ofInt 32 v).toNat : Int) = v := by
  rw [BitVec.toNat_ofInt]
  omega

/-- A pressure word is 0 or the last wrap (R285, R290). -/
theorem zero_or_uwrap32_range (p : Prop) [Decidable p] (v : Int) :
    0 ≤ (if p then 0 else uwrap32 v) ∧ (if p then 0 else uwrap32 v) < 2 ^ 32 := by
  split_ifs
  · decide
  · exact uwrap32_range v

theorem pIntOf64_range (sgn : Signedness) (f : Int) (raw : BitVec 20) (c : Cal) :
    0 ≤ pIntOf64 sgn f raw c ∧ pIntOf64 sgn f raw c < 2 ^ 32 :=
  zero_or_uwrap32_range _ _

theorem pIntOf32_range (sgn : Signedness) (f : Int) (raw : BitVec 20) (c : Cal) :
    0 ≤ pIntOf32 sgn f raw c ∧ pIntOf32 sgn f raw c < 2 ^ 32 :=
  zero_or_uwrap32_range _ _

/-! ## Pressure 0 where `dig_P1` is 0 (R285, R290) -/

section
variable (sgn : Signedness) (f : Int) (raw : BitVec 20) {c : Cal} (hp1 : c.digP1 = 0)
include hp1

theorem p1_eq_zero : Cal.p1 sgn c = 0 := by
  cases sgn <;> simp [Cal.p1, hp1]

theorem pIntOf64_eq_zero : pIntOf64 sgn f raw c = 0 := by
  have hden : pDenominatorInt64 sgn f c = 0 := by
    simp only [pDenominatorInt64, p1_eq_zero sgn hp1, mul_zero]
    rfl
  exact if_pos hden

theorem pIntOf32_eq_zero : pIntOf32 sgn f raw c = 0 := by
  have hden : pDenominatorInt32 sgn f c = 0 := by
    simp only [pDenominatorInt32, p1_eq_zero sgn hp1, mul_zero]
    rfl
  exact if_pos hden

end

/-- Settles O43: each word is the last wrap, or a shift of it; `dig_P1 = 0` makes both denominators 0. -/
theorem integerWordsFit : Obligations.IntegerWordsFit := by
  refine ⟨fun raw c => toInt_ofInt_wrap32 _, fun raw c => toInt_ofInt_asr_wrap32 _ 8,
    fun sgn f raw c => ⟨toNat_ofInt_of_range (pIntOf64_range sgn f raw c),
      toNat_ofInt_of_range (pIntOf32_range sgn f raw c)⟩,
    hIntOf_range, fun sgn f raw c hp1 => ⟨?_, ?_⟩⟩
  · rw [pIntOf64_eq_zero sgn f raw hp1]
    decide +kernel
  · rw [pIntOf32_eq_zero sgn f raw hp1]
    decide +kernel

end Sys2Proof.Machine
end
section
/-! The micro-ROM as a table of rows (44_controller.md R360, R361): a read of the ROM at an address is the word of the
row there. What it holds follows row by row. -/

namespace Sys2Proof.Machine

/-- A canonical memory holds at most one word at an address, so a read finds it. -/
theorem Memory.read_eq_some_iff {m : Memory} {a : Nat} {w : MicroWord} (h : Memory.wf m = true) :
    Memory.read m a = some w ↔ (a, w) ∈ m := by
  induction m with
  | nil => simp [Memory.read]
  | cons c rest ih =>
    obtain ⟨b, v⟩ := c
    obtain ⟨-, hrest, hlt⟩ := Memory.wf_cons h
    rw [Memory.read, List.mem_cons, Prod.mk.injEq]
    split
    · rename_i hba
      subst hba
      have hb : (b, w) ∉ rest := fun hmem => (hlt _ hmem).false
      simp [hb, eq_comm]
    · rename_i hba
      rw [ih hrest, or_iff_right fun hab => hba hab.1.symm]

/-- The priming runs from 1 on: the calls, the END behind them, and for a single run the END of R360 at 0x12. -/
theorem mem_primingPart_iff {k a : Nat} {i : Instr} (hk : 1 ≤ k) :
    (a, i) ∈ Rom.primingPart k ↔
      (∃ j < k, a = 0x10 + j ∧ i = .call 0x20) ∨ ((a = 0x10 + k ∨ k = 1 ∧ a = 0x12) ∧ i = .endCmd) := by
  obtain rfl | hk2 := hk.eq_or_lt
  · simp [Rom.primingPart]
    grind
  · have hdrop : ([(0x11, .call 0x20), (0x12, .endCmd)] : List (Nat × Instr)).drop k = [] :=
      List.drop_eq_nil_of_le hk2
    rw [Rom.primingPart, hdrop, List.append_nil]
    simp [hk2.ne', eq_comm]

theorem opField_zero : opField 0#32 = 0#8 := by decide

theorem call_of_opField {p : BcbConfig} {i : Instr} (h : opField (Rom.wordOf p i) = 0x09) : ∃ l, i = .call l := by
  cases i with
  | call l => exact ⟨l, rfl⟩
  | _ => simp [Rom.wordOf, encode, opField_zero] at h

theorem wr_of_opField {p : BcbConfig} {i : Instr} (h : opField (Rom.wordOf p i) = 0x02) : ∃ a v, i = .wr a v := by
  cases i with
  | wr a v => exact ⟨a, v, rfl⟩
  | _ => simp [Rom.wordOf, encode, opField_zero] at h

section
variable {p : BcbConfig} (hlow : 1 ≤ p.primingCount.toNat) (hhigh : p.primingCount.toNat ≤ 7)

include hlow

/-- The register writes of the ROM (R351): from 0x04 on, and each with its value. -/
theorem mem_program_wr {a : Nat} {x v : Byte} (h : (a, .wr x v) ∈ Rom.program p) :
    4 ≤ a ∧ [x, v] ∈ romWrites p := by
  simp only [Rom.program, List.mem_append, mem_primingPart_iff hlow] at h
  simp only [Rom.resetPart, Rom.refreshPart, List.mem_cons, Prod.mk.injEq, Instr.wr.injEq, reduceCtorEq, and_false,
    exists_false, List.not_mem_nil, false_or, or_false] at h
  rcases h with (⟨rfl, rfl, rfl⟩ | ⟨rfl, rfl, rfl⟩ | ⟨rfl, rfl, rfl⟩ | ⟨rfl, rfl, rfl⟩) |
    ⟨rfl, rfl, rfl⟩
  all_goals simp [romWrites]

include hhigh

/-- The calls stand before the Refresh body. -/
theorem lt_of_mem_call {a : Nat} {l : Byte} (h : (a, .call l) ∈ Rom.program p) : a < 0x20 := by
  simp only [Rom.program, List.mem_append, mem_primingPart_iff hlow] at h
  simp [Rom.resetPart, Rom.refreshPart] at h
  omega

/-- The rows stand in the order of their addresses. -/
theorem wf_image : Memory.wf (Rom.image p) = true := by
  unfold Rom.image Rom.program
  generalize p.primingCount.toNat = k at hlow hhigh
  interval_cases k <;> rfl

/-- A read of the ROM is the word of the row at the address. -/
theorem read_image_eq_some_iff {a : Nat} {w : MicroWord} :
    Memory.read (Rom.image p) a = some w ↔ ∃ i, (a, i) ∈ Rom.program p ∧ Rom.wordOf p i = w := by
  rw [Memory.read_eq_some_iff (wf_image hlow hhigh), Rom.image]
  simp

theorem read_image_of_mem {a : Nat} {i : Instr} (h : (a, i) ∈ Rom.program p) :
    Memory.read (Rom.image p) a = some (Rom.wordOf p i) :=
  (read_image_eq_some_iff hlow hhigh).2 ⟨i, h, rfl⟩

theorem isSome_read_image_iff (a : Nat) :
    (Memory.read (Rom.image p) a).isSome = true ↔
      a ≤ 0x12 ∨ a ≤ 0x10 + p.primingCount.toNat ∨ a = 0x18 ∨ a = 0x19 ∨ (0x20 ≤ a ∧ a ≤ 0x2E) := by
  have hrow : (Memory.read (Rom.image p) a).isSome = true ↔ ∃ i, (a, i) ∈ Rom.program p := by
    simp [Option.isSome_iff_exists, read_image_eq_some_iff hlow hhigh]
  have hpriming : (∃ i, (a, i) ∈ Rom.primingPart p.primingCount.toNat) ↔
      (0x10 ≤ a ∧ a ≤ 0x12) ∨ (0x10 ≤ a ∧ a ≤ 0x10 + p.primingCount.toNat) := by
    simp only [mem_primingPart_iff hlow, exists_or, exists_and_left, exists_eq, and_true]
    constructor
    · rintro (⟨i, j, hj, rfl, rfl⟩ | h) <;> omega
    · intro h
      by_cases ha : a < 0x10 + p.primingCount.toNat
      · exact .inl ⟨_, a - 0x10, by omega, by omega, rfl⟩
      · exact .inr (by omega)
  simp only [hrow, Rom.program, List.mem_append, exists_or, hpriming]
  simp [Rom.resetPart, Rom.refreshPart, exists_or]
  omega

theorem read_resetPart : ∀ row ∈ Rom.resetPart p, Memory.read (Rom.image p) row.1 = some (Rom.wordOf p row.2) :=
  fun _ h => read_image_of_mem hlow hhigh (List.mem_append_left _ (List.mem_append_left _ h))

theorem read_primingPart :
    ∀ row ∈ Rom.primingPart p.primingCount.toNat, Memory.read (Rom.image p) row.1 = some (Rom.wordOf p row.2) :=
  fun _ h => read_image_of_mem hlow hhigh (List.mem_append_left _ (List.mem_append_right _ h))

theorem read_refreshPart : ∀ row ∈ Rom.refreshPart p, Memory.read (Rom.image p) row.1 = some (Rom.wordOf p row.2) :=
  fun _ h => read_image_of_mem hlow hhigh (List.mem_append_right _ h)

/-! The operation codes of CALL and WR (R146) stand at the rows of CALL and WR alone. -/

theorem opField_ne_call {a : Nat} {w : MicroWord} (ha : 0x20 ≤ a) (hw : Memory.read (Rom.image p) a = some w) :
    opField w ≠ 0x09 := by
  obtain ⟨i, hi, rfl⟩ := (read_image_eq_some_iff hlow hhigh).1 hw
  intro hop
  obtain ⟨l, rfl⟩ := call_of_opField hop
  exact absurd (lt_of_mem_call hlow hhigh hi) ha.not_gt

theorem opField_ne_wr {a : Nat} {w : MicroWord} (ha : a < 3) (hw : Memory.read (Rom.image p) a = some w) :
    opField w ≠ 0x02 := by
  obtain ⟨i, hi, rfl⟩ := (read_image_eq_some_iff hlow hhigh).1 hw
  intro hop
  obtain ⟨x, v, rfl⟩ := wr_of_opField hop
  have hfrom := (mem_program_wr hlow hi).1
  omega

end

/-- Settles O10: each clause is a row of the three parts. -/
theorem romContents : Obligations.RomContents := by
  refine ⟨rfl, fun p k hk hlow hhigh => ?_⟩
  subst hk
  have hreset := read_resetPart hlow hhigh
  have hrefresh := read_refreshPart hlow hhigh
  have hpriming (a : Nat) (i : Instr) (h : (a, i) ∈ Rom.primingPart p.primingCount.toNat) :=
    read_primingPart hlow hhigh (a, i) h
  simp only [mem_primingPart_iff hlow] at hpriming
  simp only [Rom.resetPart, Rom.refreshPart, List.forall_mem_cons] at hreset hrefresh
  obtain ⟨h00, h01, h02, h03, h04, h05, h06, h07, h08, h09, h0A, h0B, h0C, h0D, h0E, h0F, -⟩ := hreset
  obtain ⟨h18, h19, h20, h21, h22, h23, h24, h25, h26, h27, h28, h29, h2A, h2B, h2C, h2D, h2E, -⟩ := hrefresh
  exact ⟨h00, h01, h02, h03, h04, h05, h06, h07, h08, h09, h0A, h0B, h0C, h0D, h0E, h0F,
    fun j hj => hpriming _ (.call 0x20) (.inl ⟨j, hj, rfl, rfl⟩), hpriming _ .endCmd (.inr ⟨.inl rfl, rfl⟩),
    fun hone => hpriming _ .endCmd (.inr ⟨.inr ⟨hone, rfl⟩, rfl⟩),
    h18, h19, h20, h21, h22, h23, h24, h25, h26, h27, h28, h29, h2A, h2B, h2C, h2D, h2E,
    isSome_read_image_iff hlow hhigh⟩

end Sys2Proof.Machine
end
section
/-! The step and its instructions one by one (44_controller.md R320 to R343): what a step runs and where it stops, the
acceptance of host commands, and the control micro-operations. -/

namespace Sys2Proof.Machine

variable {s : State} {i : Instr} {u : Byte} {w : MicroWord}

/-! ## What a step runs (R320, R330) -/

theorem observed_none (b : State) (r : Res) : observed b none r = r := by
  cases r <;> rfl

/-- With OBSERVER off no event is added (R408). -/
theorem observed_of_off (h : s.cfg.observer = false) (watch : Option (Byte × Byte)) (r : Res) :
    observed s watch r = r := by
  cases r <;> cases watch <;> simp [observed, observe, h]

section
variable (hcfg : paramsAdmitted s.cfg = true)
include hcfg

theorem step_of_wire (hport : s.wireQueue ≠ []) (hi : decodeWire s.cfg s.wireQueue = .ok i) :
    step s = exec i { s with wireQueue := [] } := by
  have hfetch : fetch s = .run i { s with wireQueue := [] } none := by
    rw [fetch, if_pos hcfg, if_pos hport, fetchWire, hi]
  rw [step, hfetch]
  exact observed_none _ _

variable (hport : s.wireQueue = [])
include hport

theorem fetch_of_busy (hb : s.busy = true) : fetch s = fetchMicro s := by
  rw [fetch, if_pos hcfg, if_neg (not_not.2 hport), if_pos hb]

theorem fetch_of_idle (hb : s.busy = false) : fetch s = fetchHost s := by
  simp [fetch, hcfg, hport, hb]

theorem step_of_micro (hb : s.busy = true) (hu : s.upc = some u) (hw : Memory.read s.rom u.toNat = some w)
    (hi : decodeMicro w = .ok i) : step s = observed s (some (u, opField w)) (exec i s) := by
  simp only [step, fetch_of_busy hcfg hport hb, fetchMicro, hu, hw, hi]

theorem step_of_hole (hb : s.busy = true) (hu : s.upc = some u) (hw : Memory.read s.rom u.toNat = none) :
    step s = .fault .romOverrun := by
  simp only [step, fetch_of_busy hcfg hport hb, fetchMicro, hu, hw]

theorem step_of_unwritten_upc (hb : s.busy = true) (hu : s.upc = none) :
    step s = .fault (.unwrittenRead .upc) := by
  simp only [step, fetch_of_busy hcfg hport hb, fetchMicro, hu]

variable {code : Byte} {rest : List Byte} (hb : s.busy = false)
include hb

theorem step_of_host (hq : s.hostQueue = code :: rest) (hi : decodeHost code = .ok i) :
    step s = exec i { s with hostQueue := rest } := by
  simp only [step, fetch_of_idle hcfg hport hb, fetchHost, hq, hi]
  exact observed_none _ _

theorem step_of_reserved {e : DecodeReject} (hq : s.hostQueue = code :: rest) (hi : decodeHost code = .error e) :
    step s = .refused (.reservedHostCode code) := by
  simp only [step, fetch_of_idle hcfg hport hb, fetchHost, hq, hi]

theorem step_of_nothing (hq : s.hostQueue = []) : step s = .next s := by
  simp only [step, fetch_of_idle hcfg hport hb, fetchHost, hq]

end

theorem step_of_not_admitted (hcfg : paramsAdmitted s.cfg = false) : step s = .refused .parametersNotAdmitted := by
  simp [step, fetch, hcfg]

/-- Settles O8: one way for each thing the fetch can find. -/
theorem stepRunsDecodedInstruction : Obligations.StepRunsDecodedInstruction := by
  refine ⟨fun s u w i hcfg hport hb hu hw hi => ?_, fun s code rest i hcfg hport hb hq hi =>
    step_of_host hcfg hport hb hq hi, fun s i hcfg hport hi => step_of_wire hcfg hport hi,
    fun s hcfg hport hb hq => step_of_nothing hcfg hport hb hq⟩
  have hstep := step_of_micro hcfg hport hb hu hw hi
  exact ⟨hstep, fun hoff => hstep.trans (observed_of_off hoff _ _)⟩

/-! ## What a micro-operation cannot do

The one fault it never raises is that of a hole, which is the fetch's alone (R334); and the register writes it puts on
the bus are those of WR (R178). -/

/-- The register writes in the trace after `i` are those before it, and those of `i` (R111). -/
def WritesOnly (i : Instr) (before after : Bus) : Prop :=
  ∀ a v n, BusEvent.write [a, v] n ∈ after.trace → BusEvent.write [a, v] n ∈ before.trace ∨ i = .wr a v

theorem WritesOnly.refl (i : Instr) (b : Bus) : WritesOnly i b b := fun _ _ _ => .inl

/-- The outcome is not the fault of a hole, and `P` holds of the bus of the next state. -/
structure Answers (P : Bus → Prop) (r : Res) : Prop where
  bus : ∀ t, r = .next t → P t.bus
  notOverrun : r ≠ .fault .romOverrun

section
variable {P : Bus → Prop} {r r' : Res}

theorem Answers.next (h : P s.bus) : Answers P (.next s) := by
  refine ⟨fun t ht => ?_, nofun⟩
  cases ht
  exact h

theorem Answers.fault {f : Fault} (hf : f ≠ .romOverrun) : Answers P (.fault f) :=
  ⟨fun _ h => (nomatch h), fun h => hf (Host.Outcome.fault.inj h)⟩

theorem Answers.need {α : Type} {e : Element} {x : Option α} {k : α → Res} (hk : ∀ v, Answers P (k v)) :
    Answers P (need e x k) := by
  cases x with
  | none => exact .fault nofun
  | some v => exact hk v

theorem Answers.advance (h : P s.bus) : Answers P (advance s) := .need fun _ => .next h

theorem Answers.raiseError (info : ErrInfo) (h : P s.bus) : Answers P (raiseError info s) :=
  .need fun c => .next (by cases c <;> exact h)

theorem Answers.ite {c : Prop} [Decidable c] (hr : Answers P r) (hr' : Answers P r') :
    Answers P (if c then r else r') := by
  split
  · exact hr
  · exact hr'

theorem writeRegisterTx_faulted {a v : Byte} {f : Fault} (h : writeRegisterTx a v s = .faulted f) :
    f = .unbound ∧ s.sessionBound = false := by
  unfold writeRegisterTx at h
  dsimp only at h
  split_ifs at h with hs
  exact ⟨(Tx.faulted.inj h).symm, Bool.not_eq_true _ ▸ hs⟩

theorem readTx_faulted {kind : XferKind} {a : Byte} {n : Nat} {f : Fault} (h : readTx kind a n s = .faulted f) :
    f = .unbound ∧ s.sessionBound = false := by
  unfold readTx at h
  dsimp only at h
  split_ifs at h with hs
  exact ⟨(Tx.faulted.inj h).symm, Bool.not_eq_true _ ▸ hs⟩

theorem bindTx_not_faulted (f : Fault) : bindTx s ≠ .faulted f := by
  unfold bindTx
  dsimp only
  split_ifs <;> exact nofun

theorem Answers.execWr {a v : Byte} (h : P (Bus.writeXfer [a, v] s.bus).2) : Answers P (execWr a v s) := by
  unfold Machine.execWr
  cases hx : writeRegisterTx a v s with
  | done u t =>
    obtain ⟨-, -, rfl⟩ := writeRegisterTx_done hx
    exact .advance h
  | raised info t =>
    obtain ⟨-, -, -, rfl⟩ := writeRegisterTx_raised hx
    exact .raiseError info h
  | faulted f =>
    obtain ⟨rfl, -⟩ := writeRegisterTx_faulted hx
    exact .fault nofun

theorem Answers.readTx {kind : XferKind} {a : Byte} {n : Nat} {k : List Byte → State → Res}
    (hsel : P (Bus.writeXfer [a] s.bus).2) (hread : P (Bus.readXfer n (Bus.writeXfer [a] s.bus).2).2)
    (hk : ∀ d t, P t.bus → Answers P (k d t)) : Answers P ((readTx kind a n s).finish k) := by
  cases hx : Machine.readTx kind a n s with
  | done d t =>
    obtain ⟨-, -, -, -, rfl⟩ := readTx_done hx
    exact hk d _ hread
  | raised info t =>
    obtain ⟨-, ⟨-, -, rfl⟩ | ⟨-, -, -, rfl⟩⟩ := readTx_raised hx
    · exact .raiseError info hsel
    · exact .raiseError info hread
  | faulted f =>
    obtain ⟨rfl, -⟩ := readTx_faulted hx
    exact .fault nofun

theorem Answers.execBind (h : P (Bus.bindSlave s.cfg.slaveAddr s.bus).2) : Answers P (execBind s) := by
  unfold Machine.execBind
  cases hx : bindTx s with
  | done u t =>
    obtain ⟨-, rfl⟩ := bindTx_done hx
    exact .advance h
  | raised info t =>
    obtain ⟨-, -, rfl⟩ := bindTx_raised hx
    exact .raiseError info h
  | faulted f => exact absurd hx (bindTx_not_faulted f)

theorem Answers.execBbusy {m l : Byte} (h : P s.bus) : Answers P (execBbusy m l s) := by
  refine .ite (.need fun d => .ite (.advance h) ?_) (.fault nofun)
  unfold pollAgain
  split
  · exact .next h
  · exact .need fun _ => .ite (.raiseError _ h) (.next h)

end

theorem answers_of_micro (hi : Laws.setOf i = .micro) (s : State) : Answers (WritesOnly i s.bus) (exec i s) := by
  have hkept := WritesOnly.refl i s.bus
  cases i with
  | reset | refresh | readT | readP | readH | writeRegister | readRegister | readBlock | bindSession | rdChipId
  | wrSoftReset | rdStatus | rdCal1 | rdCal2 | wrCtrlHum | wrCtrlMeasCfg | wrConfig | wrCtrlMeasForced | rdData =>
    cases hi
  | endCmd => exact .next hkept
  | bind => exact .execBind (by simp [WritesOnly, bindSlave_trace])
  | wr => exact .execWr (by simp [WritesOnly, writeXfer_trace]; grind)
  | rd =>
    exact .readTx (by simp [WritesOnly, writeXfer_trace]) (by simp [WritesOnly, writeXfer_trace, readXfer_trace])
      fun _ _ h => .advance h
  | rdb =>
    refine .ite (.readTx (by simp [WritesOnly, writeXfer_trace])
      (by simp [WritesOnly, writeXfer_trace, readXfer_trace]) fun _ t h => .advance ?_) (.fault nofun)
    rwa [putBurst_bus]
  | chkid => exact .need fun _ => .ite (.raiseError _ hkept) (.advance hkept)
  | pinit | setst => exact .advance hkept
  | pwait => exact .need fun _ => .advance (by simp [WritesOnly, sleep_trace])
  | bbusy => exact .execBbusy hkept
  | call => exact .ite (.need fun _ => .next hkept) (.fault nofun)
  | ret => exact .need fun _ => .next hkept
  | pcal => exact .need fun _ => .need fun _ => .advance hkept
  | chkrsv => exact .need fun _ => .need fun _ => .ite (.raiseError _ hkept) (.advance hkept)
  | decode =>
    exact .need fun _ => .need fun _ => .need fun _ => .need fun _ => .need fun _ => .need fun _ => .need fun _ =>
      .need fun _ => .advance hkept
  | compt => exact .need fun _ => .need fun _ => .advance hkept
  | compp | comph => exact .ite (.need fun _ => .need fun _ => .need fun _ => .advance hkept) (.fault nofun)
  | commit => exact .need fun _ => .need fun _ => .need fun _ => .advance hkept

/-! ## Where a step stops (R326, R334, R389) -/

/-- A word that stands in the ROM is run, or is illegal. -/
theorem step_ne_romOverrun (hcfg : paramsAdmitted s.cfg = true) (hport : s.wireQueue = []) (hb : s.busy = true)
    (hu : s.upc = some u) (hw : Memory.read s.rom u.toNat = some w) : step s ≠ .fault .romOverrun := by
  cases hi : decodeMicro w with
  | ok i =>
    rw [step_of_micro hcfg hport hb hu hw hi]
    exact fun h => (answers_of_micro (setOf_decodeMicro hi) s).notOverrun (observed_fault h)
  | error e => simp [step, fetch_of_busy hcfg hport hb, fetchMicro, hu, hw, hi]

theorem paramsAdmitted_eq_false {p : BcbConfig}
    (h : (p.h45Layout = .word16 ∧ p.cal2Len = 7) ∨ p.primingCount = 0) : paramsAdmitted p = false := by
  rcases h with ⟨hlayout, hlen⟩ | hzero
  · simp [paramsAdmitted, hlayout, hlen]
  · simp [paramsAdmitted, hzero]

/-- Settles O9: a hole of the default ROM is an address with no row, and no word of it answers that fault. -/
theorem fetchStops : Obligations.FetchStops := by
  refine ⟨fun s u hcfg hrom hport hb hu => ?_, fun s hcfg hport hb hu => step_of_unwritten_upc hcfg hport hb hu,
    fun s code rest hcfg hport hb hq hcode =>
      step_of_reserved hcfg hport hb hq (decodeHost_eq_error_iff.2 hcode),
    fun s h => step_of_not_admitted (paramsAdmitted_eq_false h)⟩
  have hadmitted : paramsAdmitted s.cfg = true := by
    rw [hcfg]
    rfl
  have hstep : step s = .fault .romOverrun ↔ Memory.read s.rom u.toNat = none := by
    cases hw : Memory.read s.rom u.toNat with
    | none => exact iff_of_true (step_of_hole hadmitted hport hb hu hw) rfl
    | some w => exact iff_of_false (step_ne_romOverrun hadmitted hport hb hu hw) nofun
  have hholes := isSome_read_image_iff (p := BcbConfig.defaults) (by decide) (by decide) u.toNat
  rw [hstep, hrom, hcfg, ← Option.not_isSome_iff_eq_none, hholes]
  have hcount : BcbConfig.defaults.primingCount.toNat = 2 := rfl
  rw [hcount]
  bv_omega

/-! ## Host commands (R321 to R325) -/

theorem whenIdle_of_idle (hb : s.busy = false) (r : Res) : whenIdle s r = r := by
  simp [whenIdle, hb]

/-- Settles O11: the command finds BUSY = 0, and REFRESH finds READY. -/
theorem runCommandsAccepted : Obligations.RunCommandsAccepted :=
  ⟨fun _ hb => whenIdle_of_idle hb _, fun _ hb hlife => (whenIdle_of_idle hb _).trans (if_pos hlife)⟩

theorem readSample_of_valid {x : Option F64} {v : F64} (hv : s.sampleValid = true) (hx : x = some v) (code : Byte)
    (e : Element) : readSample code e x s =
      .next { s with err := .none, hostReturns := s.hostReturns ++ [{ code := code, value := v }] } := by
  rw [readSample, if_pos hv, hx, need_some]

/-- Settles O12: the three are the one read of a sample. -/
theorem readCommandsReturnSample : Obligations.ReadCommandsReturnSample :=
  ⟨fun _ _ hb hv hx => (whenIdle_of_idle hb _).trans (readSample_of_valid hv hx _ _),
    fun _ _ hb hv hx => (whenIdle_of_idle hb _).trans (readSample_of_valid hv hx _ _),
    fun _ _ hb hv hx => (whenIdle_of_idle hb _).trans (readSample_of_valid hv hx _ _)⟩

/-! ## Control micro-operations (R331 to R343) -/

/-- A ROM word is decoded to the instruction it is the word of (R146). -/
theorem decodeMicro_of_encode (p : BcbConfig) (h : encode p i = .micro w) (hwf : i.wellFormed = true) :
    decodeMicro w = .ok i :=
  (decodeMicro_eq_ok_iff p).2 ⟨h, hwf⟩

/-- Settles O26: each is its own last line, and the END words are rows of the ROM. -/
theorem endAndSetstMicroOps : Obligations.EndAndSetstMicroOps :=
  ⟨by decide, fun _ => rfl, rfl, rfl, by decide, fun _ => decodeMicro_of_encode .defaults rfl rfl,
    fun _ _ _ hu => advance_of hu⟩

/-- CALL and BBUSY name a word of the ROM (R147). -/
theorem wellFormed_call {l : Byte} (hl : l ≤ 0x2E) : (Instr.call l).wellFormed = true := decide_eq_true hl

theorem wellFormed_bbusy {m l : Byte} (hl : l ≤ 0x2E) : (Instr.bbusy m l).wellFormed = true := decide_eq_true hl

theorem execCall_of {l : Byte} (hl : l ≤ 0x2E) (hu : s.upc = some u) :
    execCall l s = .next { s with link := some (u + 1), upc := some l } := by
  rw [execCall, if_pos (wellFormed_call hl), hu, need_some]

theorem execRet_of {l : Byte} (hl : s.link = some l) : execRet s = .next { s with upc := some l } := by
  rw [execRet, hl, need_some]

/-- Settles O27: CALL and RET on a written operand, and the rows of the subroutine. -/
theorem callAndRetMicroOps : Obligations.CallAndRetMicroOps :=
  ⟨by decide, by decide, fun _ hl => decodeMicro_of_encode .defaults rfl (wellFormed_call hl),
    fun _ _ ha hw => opField_ne_call (by decide) (by decide) ha hw,
    fun _ _ _ hl hu => execCall_of hl hu, fun _ _ hl => execRet_of hl, fun _ hl => need_of_eq_none hl⟩

section
variable {m l d : Byte} (hl : l ≤ 0x2E) (hd : s.rdata = some d)
include hl hd

theorem execBbusy_of_clear (hclear : d &&& m = 0) : execBbusy m l s = advance s := by
  rw [execBbusy, if_pos (wellFormed_bbusy hl), hd, need_some, if_pos hclear]

variable (hset : d &&& m ≠ 0)
include hset

theorem execBbusy_of_set : execBbusy m l s = pollAgain m l d s := by
  rw [execBbusy, if_pos (wellFormed_bbusy hl), hd, need_some, if_neg hset]

theorem execBbusy_of_no_limit (hlimit : s.cfg.pollLimit = none) :
    execBbusy m l s = .next { s with upc := some l } := by
  rw [execBbusy_of_set hl hd hset, pollAgain, hlimit]

variable {n : Nat} {limit : ℕ+} (hlimit : s.cfg.pollLimit = some limit) (hn : s.pollcnt = some n)
include hlimit hn

theorem execBbusy_below_limit (hlt : n < limit) : execBbusy m l s = .next { s with upc := some l } := by
  simp only [execBbusy_of_set hl hd hset, pollAgain, hlimit, hn, need_some, if_neg hlt.not_ge]

theorem execBbusy_at_limit {c : HostCmd} (hge : limit ≤ n) (hc : s.cmd = some c) :
    execBbusy m l s = .next (abortWith (.poll d m) c s) := by
  simp only [execBbusy_of_set hl hd hset, pollAgain, hlimit, hn, need_some, if_pos hge]
  exact raiseError_of hc

end

/-- Settles O28: one case for each outcome of the poll. -/
theorem bbusyMicroOp : Obligations.BbusyMicroOp := by
  refine ⟨by decide, fun m l hl => decodeMicro_of_encode .defaults rfl (wellFormed_bbusy hl),
    fun s m l d u hl hd hclear hu => ?_, fun s m l d hl hd hset hlimit => execBbusy_of_no_limit hl hd hset hlimit,
    fun s m l d n limit hl hd hset hlimit hn hlt => execBbusy_below_limit hl hd hset hlimit hn hlt,
    fun s m l d n limit c hl hd hset hlimit hn hge hc => execBbusy_at_limit hl hd hset hlimit hn hge hc⟩
  exact (execBbusy_of_clear hl hd hclear).trans (advance_of hu)

theorem execPwait_eq_advance {n : Nat} (hn : s.pollcnt = some n) :
    execPwait s = advance { s with bus := Bus.sleep s.cfg.pollInterval s.bus, pollcnt := some (n + 1) } := by
  rw [execPwait, hn, need_some]

theorem sleep_script (ms : Nat) (b : Bus) : (Bus.sleep ms b).script = b.script := by
  unfold Bus.sleep
  split <;> rfl

/-- Settles O29: the two advances, and what a Sleep leaves on the bus. -/
theorem pollCounterMicroOps : Obligations.PollCounterMicroOps :=
  ⟨by decide, by decide, rfl, rfl, rfl, rfl, fun _ _ hu => advance_of hu,
    fun _ _ _ hu hn => (execPwait_eq_advance hn).trans (advance_of hu),
    fun ms b => ⟨sleep_trace ms b, sleep_script ms b⟩⟩

theorem execChkid_of_expected {v : Byte} (hd : s.rdata = some v) : execChkid v s = advance s := by
  rw [execChkid, hd, need_some, if_neg (not_not.2 rfl)]

theorem execChkid_of_other {v d : Byte} {c : HostCmd} (hd : s.rdata = some d) (hne : d ≠ v) (hc : s.cmd = some c) :
    execChkid v s = .next (abortWith (.chipId d) c s) := by
  rw [execChkid, hd, need_some, if_pos hne]
  exact raiseError_of hc

/-- Settles O30: the two outcomes of the comparison, and the three words before it. -/
theorem chkidMicroOp : Obligations.ChkidMicroOp := by
  refine ⟨by decide, fun v => decodeMicro_of_encode .defaults rfl rfl,
    fun _ ha _ hw => opField_ne_wr (by decide) (by decide) ha hw,
    fun s v u hd hu => (execChkid_of_expected hd).trans (advance_of hu),
    fun s v d c hd hne hc => ⟨execChkid_of_other hd hne hc, rfl⟩⟩

theorem execCommit_eq_advance {t p h : F64} (ht : s.tNew = some t) (hp : s.pNew = some p) (hh : s.hNew = some h) :
    execCommit s = advance
      { s with sampleT := some t, sampleP := some p, sampleH := some h, sampleValid := true } := by
  rw [execCommit, ht, need_some, hp, need_some, hh, need_some]

/-- Settles O31: the three operands are read, and all is written at the advance. -/
theorem commitMicroOp : Obligations.CommitMicroOp :=
  ⟨by decide, fun _ _ _ _ _ hu ht hp hh => (execCommit_eq_advance ht hp hh).trans (advance_of hu)⟩

end Sys2Proof.Machine
end
section
/-! The control flow of the micro-ROM (44_controller.md R360 to R362). Where the sequencer stands at a ROM address and
what the micro-operation there reads has been written, the micro-operation answers a next state: it ends the command,
or it goes on to an address where the same holds, with fewer steps to come. -/

namespace Sys2Proof.Machine

variable {s t : State} {c : HostCmd} {i : Instr} {u : Byte} {k : Nat}

/-! ## The steps to come (R362 point 6) -/

/-- The steps from the call at `a` of the priming runs on, with END: each run is the call and the Refresh body. -/
def runsLeft (p : BcbConfig) (n a : Nat) : Nat := (0x10 + p.primingCount.toNat - a) * (13 + 3 * n) + 1

/-- The most steps left of a poll loop, `j` of them in the round that runs; POLLCNT counts that round from its PWAIT,
the first of the three, on. -/
def pollLeft (n : Nat) (s : State) (j : Nat) : Nat := j + 3 * (n - (s.pollcnt.getD 0 + if j = 3 then 1 else 0))

/-- The most steps to the end of the command under a POLL_LIMIT of `n`, from the ROM address `u` on. -/
def stepsLeft (n : Nat) (s : State) (u : Nat) : Nat :=
  if u ≤ 0x05 then 0x06 - u + 3 * n + 7 + runsLeft s.cfg n 0x10
  else if u ≤ 0x08 then pollLeft n s (0x09 - u) + 7 + runsLeft s.cfg n 0x10
  else if u ≤ 0x0F then 0x10 - u + runsLeft s.cfg n 0x10
  else if u ≤ 0x17 then runsLeft s.cfg n u
  else if u = 0x18 then 14 + 3 * n
  else if u = 0x19 then 1
  else (if u ≤ 0x22 then 0x23 - u + 3 * n + 9 else if u ≤ 0x25 then pollLeft n s (0x26 - u) + 9 else 0x2F - u)
    + runsLeft s.cfg n (s.link.getD 0).toNat

theorem runsLeft_succ {p : BcbConfig} {n a : Nat} (ha : a < 0x10 + p.primingCount.toNat) :
    runsLeft p n a = 13 + 3 * n + runsLeft p n (a + 1) := by
  obtain ⟨m, hm⟩ := Nat.exists_eq_add_of_lt ha
  rw [runsLeft, runsLeft, hm, show a + m + 1 - a = m + 1 by omega, show a + m + 1 - (a + 1) = m by omega]
  ring

theorem runsLeft_of_le {p : BcbConfig} {n a : Nat} (ha : 0x10 + p.primingCount.toNat ≤ a) : runsLeft p n a = 1 := by
  rw [runsLeft, Nat.sub_eq_zero_of_le ha, Nat.zero_mul]

theorem stepsLeft_priming {n : Nat} (hlow : 0x10 ≤ k) (hhigh : k ≤ 0x17) :
    stepsLeft n s k = runsLeft s.cfg n k := by
  rw [stepsLeft, if_neg (by omega), if_neg (by omega), if_neg (by omega), if_pos hhigh]

theorem stepsLeft_body (n : Nat) (s : State) :
    stepsLeft n s 0x20 = 12 + 3 * n + runsLeft s.cfg n (s.link.getD 0).toNat := by
  simp [stepsLeft]
  omega

/-! ## Written bytes -/

theorem writtenUpTo.byteAt {n : Nat} {buf : List (Option Byte)} (h : writtenUpTo n buf) (j : Nat) (hj : j < n) :
    byteAt buf j = some ((byteAt buf j).getD 0) := by
  obtain ⟨b, hb⟩ := Option.isSome_iff_exists.1 (h j hj)
  rw [hb, Option.getD_some]

/-- A burst writes the first bytes of its buffer (R34, R180). -/
theorem writtenUpTo_bufferAfter {n : Nat} (buf : List (Option Byte)) {d : List Byte} (h : d.length = n) :
    writtenUpTo n (bufferAfter buf d) := by
  intro j hj
  subst h
  simp [byteAt, bufferAfter, List.getD_eq_getElem?_getD, List.getElem?_append_left, hj]

/-- The ranges of an admitted record (R389), and what PCAL reads of block 2. -/
theorem paramsAdmitted_bounds {p : BcbConfig} (h : paramsAdmitted p = true) :
    1 ≤ p.primingCount.toNat ∧ p.primingCount.toNat ≤ 7 ∧
      block2Length p.h45Layout ≤ p.cal2Len.toNat ∧ 1 ≤ p.cal2Len.toNat ∧ p.cal2Len.toNat ≤ 8 := by
  simp only [paramsAdmitted, Bool.and_eq_true, Bool.or_eq_true, decide_eq_true_eq] at h
  obtain ⟨⟨hlen | ⟨hlen, hlayout⟩, hlow⟩, hhigh⟩ := h
  · rw [hlen]
    exact ⟨hlow, hhigh, by cases p.h45Layout <;> decide, by decide, by decide⟩
  · rw [hlen, hlayout]
    exact ⟨hlow, hhigh, by decide, by decide, by decide⟩

/-! ## Moves of the sequencer -/

/-- The sequencer runs the command `c` and stands at ROM address `k`, where the invariant's conditions hold. -/
structure Stands (s : State) (c : HostCmd) (k : Nat) : Prop where
  upc : s.upc = some (BitVec.ofNat 8 k)
  cmd : s.cmd = some c
  point : AtPoint s k c

/-- From address `k`, the outcome is a next state: the command is over, or the sequencer stands at an address with
fewer steps to come. -/
def Moves (s : State) (c : HostCmd) (k : Nat) (r : Res) : Prop :=
  ∃ t, r = .next t ∧ (t.busy = false ∨
    ∃ v, Stands t c v ∧ ∀ n : ℕ+, s.cfg.pollLimit = some n → stepsLeft n t v < stepsLeft n s k)

/-- `t`, with UPC not yet advanced, is fit for the address behind `k`. -/
structure Fits (s : State) (c : HostCmd) (k : Nat) (t : State) : Prop where
  upc : t.upc = s.upc
  cmd : t.cmd = s.cmd
  point : AtPoint t (k + 1) c
  steps : ∀ n, 0 < n → stepsLeft n t (k + 1) < stepsLeft n s k

/-- Nothing at an address is asked of UPC or of the observer's log. -/
theorem AtPoint.setUpc (h : AtPoint t k c) (v : Option Byte) (log : List ObserverEvent) :
    AtPoint { t with upc := v, observerLog := log } k c :=
  ⟨h.onRom, h.owner, h.bound, h.rdata, h.pollcnt, h.block1, h.block2, h.cal, h.link, h.burst, h.raw, h.tfine, h.tNew,
    h.pNew, h.hNew⟩

theorem Moves.abort (info : ErrInfo) (t : State) : Moves s c k (.next (abortWith info c t)) :=
  ⟨_, rfl, .inl (abortWith_fields info c t).2.2.2.2.2⟩

theorem Moves.raise (info : ErrInfo) (hc : t.cmd = some c) : Moves s c k (raiseError info t) := by
  rw [raiseError_of hc]
  exact .abort info t

theorem writeRegisterTx_not_faulted (hs : s.sessionBound = true) (a v : Byte) (e : Fault) :
    writeRegisterTx a v s ≠ .faulted e :=
  fun hf => absurd (writeRegisterTx_faulted hf).2 (by simp [hs])

theorem readTx_not_faulted (hs : s.sessionBound = true) (kind : XferKind) (a : Byte) (n : Nat) (e : Fault) :
    readTx kind a n s ≠ .faulted e :=
  fun hf => absurd (readTx_faulted hf).2 (by simp [hs])

theorem moves_endCmd : Moves s c k (exec .endCmd s) := ⟨_, rfl, .inl rfl⟩

section
variable (h : Stands s c k)
include h

theorem Stands.advance (ht : Fits s c k t) : Moves s c k (advance t) := by
  have hupc : some (BitVec.ofNat 8 k + 1) = some (BitVec.ofNat 8 (k + 1)) := congrArg some (BitVec.ofNat_add k 1).symm
  exact ⟨_, advance_of (ht.upc.trans h.upc), .inr ⟨k + 1, ⟨hupc, ht.cmd.trans h.cmd, ht.point.setUpc _ _⟩,
    fun n _ => ht.steps n n.pos⟩⟩

theorem Stands.next {r : Res} (hr : r = .next { t with upc := some (BitVec.ofNat 8 k + 1) }) (ht : Fits s c k t) :
    Moves s c k r := by
  rw [hr, ← advance_of (ht.upc.trans h.upc)]
  exact h.advance ht

theorem Stands.finish {α : Type} {x : Tx α} {f : α → State → Res} (hx : x.RaisesFrom s)
    (hfault : ∀ e, x ≠ .faulted e) (hdone : ∀ v t, x = .done v t → Moves s c k (f v t)) :
    Moves s c k (x.finish f) := by
  cases x with
  | done v t => exact hdone v t rfl
  | raised info t =>
    obtain ⟨b, rfl⟩ := hx info t rfl
    exact .raise info h.cmd
  | faulted e => exact absurd rfl (hfault e)

/-! ### Bus micro-operations -/

theorem Stands.bind (hnext : ∀ b, Fits s c k { s with bus := b, sessionBound := true }) :
    Moves s c k (exec .bind s) := by
  refine h.finish bindTx_raisesFrom bindTx_not_faulted fun _ t ht => ?_
  obtain ⟨-, rfl⟩ := bindTx_done ht
  exact h.advance (hnext _)

section
variable (hk : 2 ≤ k)
include hk

theorem Stands.wr {a v : Byte} (hnext : ∀ b, Fits s c k { s with bus := b }) : Moves s c k (exec (.wr a v) s) := by
  have hs := h.point.bound hk
  refine h.finish (writeRegisterTx_raisesFrom a v) (writeRegisterTx_not_faulted hs a v) fun _ t ht => ?_
  obtain ⟨-, -, rfl⟩ := writeRegisterTx_done ht
  exact h.advance (hnext _)

theorem Stands.rd {a : Byte} (hnext : ∀ b d, Fits s c k { s with bus := b, rdata := some d }) :
    Moves s c k (exec (.rd a) s) := by
  have hs := h.point.bound hk
  refine h.finish (readTx_raisesFrom .read a 1) (readTx_not_faulted hs .read a 1) fun d t ht => ?_
  obtain ⟨-, -, hlen, -, rfl⟩ := readTx_done ht
  cases d with
  | nil => cases hlen
  | cons d ds => exact h.advance (hnext _ d)

theorem Stands.rdb {a n : Byte} {buf : BufId} (hwf : (Instr.rdb a n buf).wellFormed = true)
    (hnext : ∀ b d, d.length = n.toNat → Fits s c k (({ s with bus := b } : State).putBurst buf d)) :
    Moves s c k (exec (.rdb a n buf) s) := by
  have hs := h.point.bound hk
  rw [exec_rdb hwf]
  refine h.finish (readTx_raisesFrom .burst a n.toNat) (readTx_not_faulted hs .burst a n.toNat) fun d t ht => ?_
  obtain ⟨-, -, hlen, hd, rfl⟩ := readTx_done ht
  have hle : d.length ≤ n.toNat := hd ▸ readXfer_length_le _ _
  exact h.advance (hnext _ d (hle.antisymm hlen))

end

/-! ### Control micro-operations -/

theorem Stands.chkid {v : Byte} (hd : s.rdata.isSome = true) (hnext : Fits s c k s) :
    Moves s c k (exec (.chkid v) s) := by
  obtain ⟨d, hd⟩ := Option.isSome_iff_exists.1 hd
  rcases eq_or_ne d v with rfl | hne
  · rw [exec, execChkid_of_expected hd]
    exact h.advance hnext
  · rw [exec, execChkid_of_other hd hne h.cmd]
    exact .abort _ _

theorem Stands.pwait (hp : s.pollcnt.isSome = true)
    (hnext : ∀ b, Fits s c k { s with bus := b, pollcnt := some (s.pollcnt.getD 0 + 1) }) :
    Moves s c k (exec .pwait s) := by
  obtain ⟨n, hn⟩ := Option.isSome_iff_exists.1 hp
  rw [hn, Option.getD_some] at hnext
  rw [exec, execPwait_eq_advance hn]
  exact h.advance (hnext _)

/-- BBUSY goes on, aborts at the limit, or branches back below it. -/
theorem Stands.bbusy {m l : Byte} (hl : l ≤ 0x2E) (hd : s.rdata.isSome = true) (hp : s.pollcnt.isSome = true)
    (hnext : Fits s c k s) (hback : AtPoint s l.toNat c)
    (hsteps : ∀ n, s.pollcnt.getD 0 < n → stepsLeft n s l.toNat < stepsLeft n s k) :
    Moves s c k (exec (.bbusy m l) s) := by
  obtain ⟨d, hd⟩ := Option.isSome_iff_exists.1 hd
  obtain ⟨n, hn⟩ := Option.isSome_iff_exists.1 hp
  have hstands : Stands { s with upc := some l } c l.toNat := ⟨by simp, h.cmd, hback.setUpc _ _⟩
  by_cases hclear : d &&& m = 0
  · rw [exec, execBbusy_of_clear hl hd hclear]
    exact h.advance hnext
  cases hlimit : s.cfg.pollLimit with
  | none => exact ⟨_, execBbusy_of_no_limit hl hd hclear hlimit, .inr ⟨_, hstands, by simp [hlimit]⟩⟩
  | some limit =>
    rcases lt_or_ge n limit with hlt | hge
    · refine ⟨_, execBbusy_below_limit hl hd hclear hlimit hn hlt, .inr ⟨_, hstands, fun n' hn' => ?_⟩⟩
      obtain rfl : limit = n' := Option.some.inj (hlimit.symm.trans hn')
      exact hsteps limit (by rwa [hn])
    · rw [exec, execBbusy_at_limit hl hd hclear hlimit hn hge h.cmd]
      exact .abort _ _

/-- The call of the Refresh body (R350): LINK is the address behind it. -/
theorem Stands.callBody {r : Byte} (hr : BitVec.ofNat 8 k + 1 = r) (hbody : AtPoint { s with link := some r } 0x20 c)
    (hsteps : ∀ n, 12 + 3 * n + runsLeft s.cfg n r.toNat < stepsLeft n s k) : Moves s c k (exec (.call 0x20) s) := by
  refine ⟨_, execCall_of (by decide) h.upc, .inr ⟨0x20, ⟨rfl, h.cmd, ?_⟩, fun n _ => ?_⟩⟩
  · rw [hr]
    exact hbody.setUpc _ _
  · rw [stepsLeft_body, hr]
    exact hsteps n

/-- RET goes to the address LINK holds (R333). -/
theorem Stands.ret {l : Byte} (hl : s.link = some l) (hback : AtPoint s l.toNat c)
    (hsteps : ∀ n, stepsLeft n s l.toNat < stepsLeft n s k) : Moves s c k (exec .ret s) :=
  ⟨_, execRet_of hl, .inr ⟨l.toNat, ⟨by simp, h.cmd, hback.setUpc _ _⟩, fun n _ => hsteps n⟩⟩

/-! ### Calibration and compensation -/

/-- PCAL reads the bytes of the two blocks that its layout names (R200). -/
theorem Stands.pcal (h1 : writtenUpTo 26 s.buf1) (h2 : writtenUpTo (block2Length s.cfg.h45Layout) s.buf2)
    (hnext : ∀ x, Fits s c k { s with cal := some x, calValid := true }) : Moves s c k (exec .pcal s) :=
  h.next (r := execPcal s) (execPcal_of_bytes h.upc (fun j hj _ => h1.byteAt j hj) h2.byteAt) (hnext _)

theorem Stands.chkrsv (hb : writtenUpTo 8 s.bufd) (hnext : Fits s c k s) : Moves s c k (exec .chkrsv s) := by
  rw [exec, execChkrsv_of_bytes (hb.byteAt 2 (by decide)) (hb.byteAt 5 (by decide))]
  split
  · exact .raise _ h.cmd
  · exact h.advance hnext

theorem Stands.decode (hb : writtenUpTo 8 s.bufd)
    (hnext : ∀ p t x, Fits s c k
      { s with rawP := some p, rawT := some t, rawH := some x, rawGen := s.rawGen + 1 }) :
    Moves s c k (exec .decode s) :=
  h.next (r := execDecode s) (execDecode_of_bytes h.upc hb.byteAt) (hnext _ _ _)

section
variable (hraw : s.rawP.isSome = true ∧ s.rawT.isSome = true ∧ s.rawH.isSome = true) (hcal : s.cal.isSome = true)
include hraw hcal

theorem Stands.compt
    (hnext : ∀ f x w, Fits s c k { s with tfine := some f, tNew := some x, tInt := w, tfineGen := s.rawGen }) :
    Moves s c k (exec .compt s) := by
  obtain ⟨-, hraw, -⟩ := hraw
  obtain ⟨raw, hraw⟩ := Option.isSome_iff_exists.1 hraw
  obtain ⟨x, hcal⟩ := Option.isSome_iff_exists.1 hcal
  exact h.next (r := execCompt s) (execCompt_of h.upc hraw hcal rfl) (hnext _ _ _)

variable (htfine : s.tfine.isSome = true ∧ s.tfineGen = s.rawGen)
include htfine

theorem Stands.compp (hnext : ∀ x w, Fits s c k { s with pNew := some x, pInt := w }) :
    Moves s c k (exec .compp s) := by
  obtain ⟨hraw, -, -⟩ := hraw
  obtain ⟨hf, hgen⟩ := htfine
  obtain ⟨f, hf⟩ := Option.isSome_iff_exists.1 hf
  obtain ⟨raw, hraw⟩ := Option.isSome_iff_exists.1 hraw
  obtain ⟨x, hcal⟩ := Option.isSome_iff_exists.1 hcal
  exact h.next (r := execCompp s) (execCompp_of h.upc hf hraw hcal hgen rfl) (hnext _ _)

theorem Stands.comph (hnext : ∀ x w, Fits s c k { s with hNew := some x, hInt := w }) :
    Moves s c k (exec .comph s) := by
  obtain ⟨-, -, hraw⟩ := hraw
  obtain ⟨hf, hgen⟩ := htfine
  obtain ⟨f, hf⟩ := Option.isSome_iff_exists.1 hf
  obtain ⟨raw, hraw⟩ := Option.isSome_iff_exists.1 hraw
  obtain ⟨x, hcal⟩ := Option.isSome_iff_exists.1 hcal
  exact h.next (r := execComph s) (execComph_of h.upc hf hraw hcal hgen rfl) (hnext _ _)

end

theorem Stands.commit (ht : s.tNew.isSome = true) (hp : s.pNew.isSome = true) (hh : s.hNew.isSome = true)
    (hnext : ∀ t p x, Fits s c k
      { s with sampleT := some t, sampleP := some p, sampleH := some x, sampleValid := true }) :
    Moves s c k (exec .commit s) := by
  obtain ⟨t, ht⟩ := Option.isSome_iff_exists.1 ht
  obtain ⟨p, hp⟩ := Option.isSome_iff_exists.1 hp
  obtain ⟨x, hh⟩ := Option.isSome_iff_exists.1 hh
  rw [exec, execCommit_eq_advance ht hp hh]
  exact h.advance (hnext _ _ _)

end

/-! ## The rows of the ROM -/

/-- What is asked at an address, part by part: at a given address all but a few parts ask nothing. -/
theorem atPoint_iff : AtPoint s k c ↔
    (Memory.read (Rom.image s.cfg) k).isSome = true ∧ ownerOk k c ∧ (2 ≤ k → s.sessionBound = true) ∧
    (k = 0x03 ∨ k = 0x08 ∨ k = 0x25 → s.rdata.isSome = true) ∧
    ((6 ≤ k ∧ k ≤ 8) ∨ (0x23 ≤ k ∧ k ≤ 0x25) → s.pollcnt.isSome = true) ∧
    (k = 0x0A ∨ k = 0x0B → writtenUpTo 26 s.buf1) ∧ (k = 0x0B → writtenUpTo s.cfg.cal2Len.toNat s.buf2) ∧
    (0x0C ≤ k → s.cal.isSome = true) ∧ (0x20 ≤ k → linkOk s.cfg s.link c) ∧
    (k = 0x27 ∨ k = 0x28 → writtenUpTo 8 s.bufd) ∧
    (0x29 ≤ k ∧ k ≤ 0x2B → s.rawP.isSome = true ∧ s.rawT.isSome = true ∧ s.rawH.isSome = true) ∧
    (k = 0x2A ∨ k = 0x2B → s.tfine.isSome = true ∧ s.tfineGen = s.rawGen) ∧
    (0x2A ≤ k ∧ k ≤ 0x2C → s.tNew.isSome = true) ∧ (k = 0x2B ∨ k = 0x2C → s.pNew.isSome = true) ∧
    (k = 0x2C → s.hNew.isSome = true) :=
  ⟨fun ⟨h1, h2, h3, h4, h5, h6, h7, h8, h9, h10, h11, h12, h13, h14, h15⟩ =>
      ⟨h1, h2, h3, h4, h5, h6, h7, h8, h9, h10, h11, h12, h13, h14, h15⟩,
    fun ⟨h1, h2, h3, h4, h5, h6, h7, h8, h9, h10, h11, h12, h13, h14, h15⟩ =>
      ⟨h1, h2, h3, h4, h5, h6, h7, h8, h9, h10, h11, h12, h13, h14, h15⟩⟩

theorem fits_iff : Fits s c k t ↔ t.upc = s.upc ∧ t.cmd = s.cmd ∧ AtPoint t (k + 1) c ∧
    ∀ n, 0 < n → stepsLeft n t (k + 1) < stepsLeft n s k :=
  ⟨fun ⟨hu, hc, hp, hs⟩ => ⟨hu, hc, hp, hs⟩, fun ⟨hu, hc, hp, hs⟩ => ⟨hu, hc, hp, hs⟩⟩

section
variable (hparams : romParams s.cfg)
include hparams

/-- RESET's part, row by row: what each micro-operation reads is written, and its successor is the next row. -/
theorem moves_resetPart :
    ∀ row ∈ Rom.resetPart s.cfg, Stands s c row.1 → Moves s c row.1 (exec row.2 s) := by
  obtain ⟨hadmitted, hcal1, -⟩ := hparams
  obtain ⟨hlow, hhigh, hlayout, hlen, hlen'⟩ := paramsAdmitted_bounds hadmitted
  have hwf1 : (Instr.rdb s.cfg.regCal1 s.cfg.cal1Len .buf1).wellFormed = true := by rw [hcal1]; rfl
  have hwf2 : (Instr.rdb s.cfg.regCal2 s.cfg.cal2Len .buf2).wellFormed = true := by
    simp [Instr.wellFormed, BufId.capacity, hlen, hlen']
    omega
  simp only [Rom.resetPart, List.forall_mem_cons]
  refine ⟨
    fun h => h.advance ?_,
    fun h => h.bind fun b => ?_,
    fun h => h.rd (by decide) fun b d => ?_,
    fun h => h.chkid (h.point.rdata (by decide)) ?_,
    fun h => h.wr (by decide) fun b => ?_,
    fun h => h.advance ?_,
    fun h => h.pwait (h.point.pollcnt (by decide)) fun b => ?_,
    fun h => h.rd (by decide) fun b d => ?_,
    fun h => h.bbusy (by decide) (h.point.rdata (by decide)) (h.point.pollcnt (by decide)) ?_ ?_ fun n hn => ?_,
    fun h => h.rdb (by decide) hwf1 fun b d hd => ?_,
    fun h => h.rdb (by decide) hwf2 fun b d hd => ?_,
    fun h => h.pcal (h.point.block1 (by decide)) (fun j hj => h.point.block2 (by decide) j (hj.trans_le hlayout))
      fun x => ?_,
    fun h => h.advance ?_,
    fun h => h.wr (by decide) fun b => ?_,
    fun h => h.wr (by decide) fun b => ?_,
    fun h => h.wr (by decide) fun b => ?_,
    nofun⟩
  -- What the next address asks is what this one asks and what the row has written.
  all_goals
    have hp := h.point
    simp_all [fits_iff, atPoint_iff, isSome_read_image_iff hlow hhigh, ownerOk, stepsLeft, pollLeft,
      writtenUpTo_bufferAfter]
  all_goals omega

section
variable (hbound : s.sessionBound = true) (hcal : s.cal.isSome = true)
include hbound hcal

/-- The Refresh body asks for the session, CAL and LINK. -/
theorem atPoint_body {r : Byte} (hlink : linkOk s.cfg (some r) c) : AtPoint { s with link := some r } 0x20 c := by
  obtain ⟨hlow, hhigh, -⟩ := paramsAdmitted_bounds hparams.1
  simp [atPoint_iff, isSome_read_image_iff hlow hhigh, ownerOk, hbound, hcal, hlink]

/-- Behind a call of the Refresh body, in the priming runs or in REFRESH, nothing more than the session and CAL is
asked (R332, R361). -/
theorem atPoint_of_linkOk (hlink : linkOk s.cfg s.link c) :
    ∃ l, s.link = some l ∧ AtPoint s l.toNat c ∧ ∀ n, stepsLeft n s l.toNat = runsLeft s.cfg n l.toNat := by
  obtain ⟨hlow, hhigh, -⟩ := paramsAdmitted_bounds hparams.1
  obtain ⟨l, hl, ⟨rfl, hfrom, hto⟩ | ⟨rfl, hrefresh⟩⟩ := hlink
  · have hrow := (isSome_read_image_iff hlow hhigh l.toNat).2 (by omega)
    refine ⟨l, hl, ⟨hrow, ⟨fun _ => rfl, ?_⟩, fun _ => hbound, ?_, ?_, ?_, ?_, fun _ => hcal, ?_, ?_, ?_, ?_, ?_, ?_, ?_⟩,
      fun n => stepsLeft_priming (by omega) (by omega)⟩
    all_goals
      intro hk
      omega
  · refine ⟨l, hl, ?_, fun n => ?_⟩
    · simp [hrefresh, atPoint_iff, isSome_read_image_iff hlow hhigh, ownerOk, hbound, hcal]
    · rw [hrefresh, runsLeft_of_le (by omega)]
      rfl

end

/-- The priming runs: each call returns behind itself, and END stands behind the last. -/
theorem moves_primingPart : ∀ row ∈ Rom.primingPart s.cfg.primingCount.toNat,
    Stands s c row.1 → Moves s c row.1 (exec row.2 s) := by
  obtain ⟨hlow, hhigh, -⟩ := paramsAdmitted_bounds hparams.1
  rintro ⟨k, i⟩ hrow h
  obtain ⟨j, hj, rfl, rfl⟩ | ⟨-, rfl⟩ := (mem_primingPart_iff hlow).1 hrow
  · have hreturn : (BitVec.ofNat 8 (0x10 + j) + 1).toNat = 0x10 + j + 1 := by bv_omega
    generalize hr : BitVec.ofNat 8 (0x10 + j) + 1 = r at hreturn
    replace h : Stands s c (0x10 + j) := h
    have hreset : c = .reset := h.point.owner.1 (by omega)
    have hlink : linkOk s.cfg (some r) c := ⟨r, rfl, .inl ⟨hreset, by omega, by omega⟩⟩
    refine h.callBody hr (atPoint_body hparams (h.point.bound (by omega)) (h.point.cal (by omega)) hlink) fun n => ?_
    rw [hreturn, stepsLeft_priming (by omega) (by omega), runsLeft_succ (a := 0x10 + j) (by omega)]
    omega
  · exact moves_endCmd

theorem moves_refreshCall (h : Stands s c 0x18) : Moves s c 0x18 (exec (.call 0x20) s) := by
  obtain ⟨hlow, hhigh, -⟩ := paramsAdmitted_bounds hparams.1
  have hlink : linkOk s.cfg (some 0x19#8) c := ⟨_, rfl, .inr ⟨h.point.owner.2 (.inl rfl), rfl⟩⟩
  refine h.callBody rfl (atPoint_body hparams (h.point.bound (by decide)) (h.point.cal (by decide)) hlink) fun n => ?_
  have hend : runsLeft s.cfg n 0x19 = 1 := runsLeft_of_le (by omega)
  simp [stepsLeft, hend]
  omega

theorem moves_ret (h : Stands s c 0x2E) : Moves s c 0x2E (exec .ret s) := by
  obtain ⟨l, hl, hback, hsteps⟩ := atPoint_of_linkOk hparams (h.point.bound (by decide)) (h.point.cal (by decide))
    (h.point.link (by decide))
  refine h.ret hl hback fun n => ?_
  rw [hsteps]
  simp [stepsLeft, hl]

/-- REFRESH and the Refresh body, row by row. -/
theorem moves_refreshPart :
    ∀ row ∈ Rom.refreshPart s.cfg, Stands s c row.1 → Moves s c row.1 (exec row.2 s) := by
  obtain ⟨hlow, hhigh, -⟩ := paramsAdmitted_bounds hparams.1
  have hdata : s.cfg.dataLen = 8 := hparams.2.2
  have hwf : (Instr.rdb s.cfg.regData s.cfg.dataLen .bufd).wellFormed = true := by rw [hdata]; rfl
  simp only [Rom.refreshPart, List.forall_mem_cons]
  refine ⟨
    fun h => moves_refreshCall hparams h,
    fun _ => moves_endCmd,
    fun h => h.advance ?_,
    fun h => h.wr (by decide) fun b => ?_,
    fun h => h.advance ?_,
    fun h => h.pwait (h.point.pollcnt (by decide)) fun b => ?_,
    fun h => h.rd (by decide) fun b d => ?_,
    fun h => h.bbusy (by decide) (h.point.rdata (by decide)) (h.point.pollcnt (by decide)) ?_ ?_ fun n hn => ?_,
    fun h => h.rdb (by decide) hwf fun b d hd => ?_,
    fun h => h.chkrsv (h.point.burst (by decide)) ?_,
    fun h => h.decode (h.point.burst (by decide)) fun p t x => ?_,
    fun h => h.compt (h.point.raw (by decide)) (h.point.cal (by decide)) fun f x w => ?_,
    fun h => h.compp (h.point.raw (by decide)) (h.point.cal (by decide)) (h.point.tfine (by decide)) fun x w => ?_,
    fun h => h.comph (h.point.raw (by decide)) (h.point.cal (by decide)) (h.point.tfine (by decide)) fun x w => ?_,
    fun h => h.commit (h.point.tNew (by decide)) (h.point.pNew (by decide)) (h.point.hNew (by decide)) fun t p x => ?_,
    fun h => h.advance ?_,
    fun h => moves_ret hparams h,
    nofun⟩
  all_goals
    have hp := h.point
    simp_all [fits_iff, atPoint_iff, isSome_read_image_iff hlow hhigh, ownerOk, stepsLeft, pollLeft,
      writtenUpTo_bufferAfter]
  all_goals omega

end

end Sys2Proof.Machine
end
section
/-! The control invariant (44_controller.md R362) along a run: every step keeps it, none faults (60_exceptions.md R389),
the steps of a command are bounded, and the register writes on the bus are the ROM's (R351). -/

namespace Sys2Proof.Machine

variable {s t : State} {c : HostCmd} {i : Instr} {u : Byte} {k : Nat}

/-! ## A micro-step of the ROM -/

theorem moves_of_mem (hparams : romParams s.cfg) (h : Stands s c k) (hi : (k, i) ∈ Rom.program s.cfg) :
    Moves s c k (exec i s) := by
  rw [Rom.program, List.mem_append, List.mem_append] at hi
  obtain (hi | hi) | hi := hi
  · exact moves_resetPart hparams _ hi h
  · exact moves_primingPart hparams _ hi h
  · exact moves_refreshPart hparams _ hi h

/-- Every row of the ROM is a micro-operation with legal operands (R147) where its bursts fit their buffers. -/
theorem wellFormed_program {p : BcbConfig} (hparams : romParams p) :
    ∀ row ∈ Rom.program p, encode p row.2 = .micro (Rom.wordOf p row.2) ∧ row.2.wellFormed = true := by
  obtain ⟨hadmitted, hcal1, hdata⟩ := hparams
  obtain ⟨hlow, -, -, hlen, hlen'⟩ := paramsAdmitted_bounds hadmitted
  simp only [Rom.program, List.forall_mem_append]
  refine ⟨⟨?_, ?_⟩, ?_⟩
  · simp [Rom.resetPart, Rom.wordOf, encode, Instr.wellFormed, BufId.capacity, lastRomAddress, hcal1, hlen, hlen']
    omega
  · rintro ⟨k, i⟩ hrow
    obtain ⟨j, -, -, rfl⟩ | ⟨-, rfl⟩ := (mem_primingPart_iff hlow).1 hrow
    · exact ⟨rfl, rfl⟩
    · exact ⟨rfl, rfl⟩
  · simp [Rom.refreshPart, Rom.wordOf, encode, Instr.wellFormed, BufId.capacity, lastRomAddress, hdata]

theorem decodeMicro_wordOf {p : BcbConfig} (hparams : romParams p) (hi : (k, i) ∈ Rom.program p) :
    decodeMicro (Rom.wordOf p i) = .ok i := by
  obtain ⟨hencode, hwf⟩ := wellFormed_program hparams _ hi
  exact decodeMicro_of_encode p hencode hwf

theorem ControlInv.stands (h : ControlInv s) (hb : s.busy = true) : ∃ c k, Stands s c k := by
  obtain ⟨u, c, hu, hc, hpoint⟩ := h.point hb
  exact ⟨c, u.toNat, by simp [hu], hc, hpoint⟩

/-- The sequencer's address is one of the ROM's. -/
theorem Stands.toNat_address (h : Stands s c k) (hparams : romParams s.cfg) : (BitVec.ofNat 8 k).toNat = k := by
  obtain ⟨hlow, hhigh, -⟩ := paramsAdmitted_bounds hparams.1
  have hrow := (isSome_read_image_iff hlow hhigh k).1 h.point.onRom
  rw [BitVec.toNat_ofNat, Nat.mod_eq_of_lt (by omega)]

theorem Stands.exists_row (h : Stands s c k) (hparams : romParams s.cfg) : ∃ i, (k, i) ∈ Rom.program s.cfg := by
  obtain ⟨hlow, hhigh, -⟩ := paramsAdmitted_bounds hparams.1
  obtain ⟨w, hw⟩ := Option.isSome_iff_exists.1 h.point.onRom
  obtain ⟨i, hi, -⟩ := (read_image_eq_some_iff hlow hhigh).1 hw
  exact ⟨i, hi⟩

/-- While BUSY = 1 a step runs the row of the ROM at UPC (R330), and the observer adds to its log alone. -/
theorem ControlInv.step_row (h : ControlInv s) (hb : s.busy = true) (hs : Stands s c k)
    (hi : (k, i) ∈ Rom.program s.cfg) (ht : exec i s = .next t) :
    ∃ log, step s = .next { t with observerLog := log } := by
  obtain ⟨hlow, hhigh, -⟩ := paramsAdmitted_bounds h.params.1
  have hw : Memory.read s.rom (BitVec.ofNat 8 k).toNat = some (Rom.wordOf s.cfg i) := by
    rw [hs.toNat_address h.params, h.rom]
    exact read_image_of_mem hlow hhigh hi
  have hstep := step_of_micro h.params.1 h.port hb hs.upc hw (decodeMicro_wordOf h.params hi)
  rw [ht] at hstep
  obtain ⟨log, hlog⟩ := observe_eq s t (some (BitVec.ofNat 8 k, opField (Rom.wordOf s.cfg i)))
  exact ⟨log, hstep.trans (congrArg _ hlog)⟩

/-- The whole of a micro-step: the row it runs, its effect, and how the sequencer moved. -/
theorem ControlInv.micro_step (h : ControlInv s) (hb : s.busy = true) (hs : Stands s c k) :
    ∃ i t log, (k, i) ∈ Rom.program s.cfg ∧ exec i s = .next t ∧
      step s = .next { t with observerLog := log } ∧
      (t.busy = false ∨
        ∃ v, Stands t c v ∧ ∀ n : ℕ+, s.cfg.pollLimit = some n → stepsLeft n t v < stepsLeft n s k) := by
  obtain ⟨i, hi⟩ := hs.exists_row h.params
  obtain ⟨t, ht, hmoves⟩ := moves_of_mem h.params hs hi
  obtain ⟨log, hlog⟩ := h.step_row hb hs hi ht
  exact ⟨i, t, log, hi, ht, hlog, hmoves⟩

/-! ## Every step keeps the invariant -/

theorem Effect.wireQueue_eq (he : Effect s i t) : t.wireQueue = s.wireQueue := by
  cases he with
  | burst => exact putBurst_wireQueue _ _ _
  | _ => rfl

/-- A valid sample is written: COMMIT writes all three, and they are written for good. -/
theorem Effect.sample_written (he : Effect s i t)
    (hs : s.sampleValid = true → s.sampleT.isSome = true ∧ s.sampleP.isSome = true ∧ s.sampleH.isSome = true) :
    t.sampleValid = true → t.sampleT.isSome = true ∧ t.sampleP.isSome = true ∧ t.sampleH.isSome = true := by
  cases he with
  | committed => exact fun _ => ⟨rfl, rfl, rfl⟩
  | resetAborted => exact fun hv => nomatch hv
  | burst => simpa using hs
  | _ => exact hs

/-- In READY the session is bound and CAL is written: READY is entered by SETST or by the abort of a REFRESH. -/
theorem Effect.ready_bound (he : Effect s i t)
    (hs : s.lifeState = .ready → s.sessionBound = true ∧ s.cal.isSome = true)
    (henter : i = .setst .ready ∨ (Laws.setOf i ≠ .host ∧ s.cmd = some .refresh) →
      s.sessionBound = true ∧ s.cal.isSome = true) :
    t.lifeState = .ready → t.sessionBound = true ∧ t.cal.isSome = true := by
  cases he with
  | stateSet st =>
    intro hst
    cases hst
    exact henter (.inl rfl)
  | refreshAborted _ _ hi _ hc => exact fun _ => henter (.inr ⟨hi, hc⟩)
  | resetAborted => exact fun hr => nomatch hr
  | wireBound | bound => exact fun hr => ⟨rfl, (hs hr).2⟩
  | calibrated => exact fun hr => ⟨(hs hr).1, rfl⟩
  | burst => simpa using hs
  | _ => exact hs

theorem ControlInv.of_effect (h : ControlInv s) (he : Effect s i t)
    (henter : i = .setst .ready ∨ (Laws.setOf i ≠ .host ∧ s.cmd = some .refresh) →
      s.sessionBound = true ∧ s.cal.isSome = true)
    (hpoint : t.busy = true → ∃ c k, Stands t c k) : ControlInv t := by
  obtain ⟨hrom, hcfg⟩ := he.rom_cfg
  have hparams : romParams t.cfg := hcfg ▸ h.params
  refine ⟨hparams, by rw [hrom, hcfg, h.rom], he.wireQueue_eq.trans h.port, he.ready_bound h.ready henter,
    he.sample_written h.sample, fun hb => ?_⟩
  obtain ⟨c, k, hs⟩ := hpoint hb
  exact ⟨_, c, hs.upc, hs.cmd, (hs.toNat_address hparams).symm ▸ hs.point⟩

theorem ControlInv.setLog (h : ControlInv s) (log : List ObserverEvent) : ControlInv { s with observerLog := log } := by
  refine ⟨h.params, h.rom, h.port, h.ready, h.sample, fun hb => ?_⟩
  obtain ⟨u, c, hu, hc, hpoint⟩ := h.point hb
  exact ⟨u, c, hu, hc, hpoint.setUpc s.upc log⟩

theorem ControlInv.setQueue (h : ControlInv s) (hb : s.busy = false) (q : List Byte) :
    ControlInv { s with hostQueue := q } :=
  ⟨h.params, h.rom, h.port, h.ready, h.sample, fun hb' => absurd (hb.symm.trans hb') nofun⟩

/-- Where the ROM enters READY, or a REFRESH runs, the session is bound and CAL is written. -/
theorem Stands.bound_cal (hs : Stands s c k) (hparams : romParams s.cfg) (hi : (k, i) ∈ Rom.program s.cfg)
    (henter : i = .setst .ready ∨ s.cmd = some .refresh) : s.sessionBound = true ∧ s.cal.isSome = true := by
  suffices hk : 0x0C ≤ k from ⟨hs.point.bound (by omega), hs.point.cal hk⟩
  rcases henter with rfl | hc
  · obtain ⟨hlow, -⟩ := paramsAdmitted_bounds hparams.1
    simp only [Rom.program, List.mem_append, mem_primingPart_iff hlow] at hi
    simp [Rom.resetPart, Rom.refreshPart] at hi
    omega
  · by_contra hk
    cases (hs.point.owner.1 (by omega)).symm.trans (Option.some.inj (hs.cmd.symm.trans hc))

/-- RESET and REFRESH start where the invariant holds (R321, R322, R362). -/
theorem Effect.host_stands (h : ControlInv s) (he : Effect s i t) (hi : Laws.setOf i = .host) (hidle : s.busy = false) :
    t.busy = true → ∃ c k, Stands t c k := by
  obtain ⟨hlow, hhigh, -⟩ := paramsAdmitted_bounds h.params.1
  cases he with
  | resetAccepted =>
    refine fun _ => ⟨.reset, 0x00, rfl, rfl, ?_⟩
    simp [atPoint_iff, isSome_read_image_iff hlow hhigh, ownerOk]
  | refreshAccepted _ hl =>
    obtain ⟨hbound, hcal⟩ := h.ready hl
    refine fun _ => ⟨.refresh, 0x18, rfl, rfl, ?_⟩
    simp [atPoint_iff, isSome_read_image_iff hlow hhigh, ownerOk, hbound, hcal]
  | _ => simp_all

theorem ControlInv.host_step (h : ControlInv s) (hb : s.busy = false) :
    step s = .next s ∨ (∃ r, step s = .refused r) ∨
      ∃ i q, Laws.setOf i = .host ∧ step s = exec i { s with hostQueue := q } := by
  cases hq : s.hostQueue with
  | nil => exact .inl (step_of_nothing h.params.1 h.port hb hq)
  | cons code rest =>
    cases hi : decodeHost code with
    | error e => exact .inr (.inl ⟨_, step_of_reserved h.params.1 h.port hb hq hi⟩)
    | ok i => exact .inr (.inr ⟨i, rest, setOf_decodeHost hi, step_of_host h.params.1 h.port hb hq hi⟩)

/-- Settles O51: by the effect of the instruction that ran, and the move of the sequencer. -/
theorem controlInvariantKept : Obligations.ControlInvariantKept := by
  intro s t h hstep
  cases hb : s.busy with
  | true =>
    obtain ⟨c, k, hs⟩ := h.stands hb
    obtain ⟨i, t', log, hi, ht', hnext, hmoves⟩ := h.micro_step hb hs
    obtain rfl : { t' with observerLog := log } = t := Host.Outcome.next.inj (hnext.symm.trans hstep)
    refine (h.of_effect (exec_effect ht') (fun henter => hs.bound_cal h.params hi (henter.imp_right And.right))
      fun hbusy => ?_).setLog log
    obtain hend | ⟨v, hv, -⟩ := hmoves
    · exact absurd (hend.symm.trans hbusy) nofun
    · exact ⟨c, v, hv⟩
  | false =>
    obtain hnext | ⟨r, hr⟩ | ⟨i, q, hi, hexec⟩ := h.host_step hb
    · exact Host.Outcome.next.inj (hnext.symm.trans hstep) ▸ h
    · exact absurd (hr.symm.trans hstep) nofun
    · have hq := h.setQueue hb q
      have he := exec_effect (hexec.symm.trans hstep)
      refine hq.of_effect he (fun henter => ?_) (he.host_stands hq hi hb)
      rcases henter with rfl | ⟨hne, -⟩
      · cases hi
      · exact absurd hi hne

/-! ## No step is a fault (R389) -/

theorem readSample_ne_fault {code : Byte} {e : Element} {x : Option F64} (hx : s.sampleValid = true → x.isSome = true)
    (f : Fault) : whenIdle s (readSample code e x s) ≠ .fault f := by
  unfold whenIdle readSample
  split_ifs with hb hv
  · exact nofun
  · obtain ⟨v, hv⟩ := Option.isSome_iff_exists.1 (hx hv)
    rw [hv, need_some]
    exact nofun
  · exact nofun

theorem ControlInv.exec_host_ne_fault (h : ControlInv s) (hi : Laws.setOf i = .host) (f : Fault) :
    exec i s ≠ .fault f := by
  cases i with
  | reset =>
    rw [exec, execReset, whenIdle]
    split_ifs <;> exact nofun
  | refresh =>
    rw [exec, execRefresh, whenIdle]
    split_ifs <;> exact nofun
  | readT => exact readSample_ne_fault (fun hv => (h.sample hv).1) f
  | readP => exact readSample_ne_fault (fun hv => (h.sample hv).2.1) f
  | readH => exact readSample_ne_fault (fun hv => (h.sample hv).2.2) f
  | _ => cases hi

/-- Settles O52: a micro-step answers a next state, and a host command reads a valid sample at most. -/
theorem noFaultUnderControlInvariant : Obligations.NoFaultUnderControlInvariant := by
  intro s f h hstep
  cases hb : s.busy with
  | true =>
    obtain ⟨c, k, hs⟩ := h.stands hb
    obtain ⟨i, t, log, -, -, hnext, -⟩ := h.micro_step hb hs
    exact absurd (hnext.symm.trans hstep) nofun
  | false =>
    obtain hnext | ⟨r, hr⟩ | ⟨i, q, hi, hexec⟩ := h.host_step hb
    · exact absurd (hnext.symm.trans hstep) nofun
    · exact absurd (hr.symm.trans hstep) nofun
    · exact (h.setQueue hb q).exec_host_ne_fault hi f (hexec.symm.trans hstep)

/-! ## The register writes on the bus (R351) -/

theorem Effect.bus_of_host (he : Effect s i t) (hi : Laws.setOf i = .host) : t.bus = s.bus := by
  cases he with
  | resetAccepted | refreshAccepted | notReady | returned => rfl
  | _ => simp_all [Laws.setOf]

/-- Settles O55: the writes of a step are those of the WR it ran, and every WR of the ROM is listed. -/
theorem onlyRomWritesOnTheBus : Obligations.OnlyRomWritesOnTheBus := by
  intro s t h honly hstep a v n hmem
  have hcfg := (romAndParametersFixed s t hstep).2
  rw [hcfg]
  cases hb : s.busy with
  | true =>
    obtain ⟨c, k, hs⟩ := h.stands hb
    obtain ⟨i, t', log, hi, ht', hnext, -⟩ := h.micro_step hb hs
    obtain rfl : { t' with observerLog := log } = t := Host.Outcome.next.inj (hnext.symm.trans hstep)
    have hmicro := setOf_decodeMicro (decodeMicro_wordOf h.params hi)
    rcases (answers_of_micro hmicro s).bus t' ht' a v n hmem with hold | rfl
    · exact honly a v n hold
    · exact (mem_program_wr (paramsAdmitted_bounds h.params.1).1 hi).2
  | false =>
    obtain hnext | ⟨r, hr⟩ | ⟨i, q, hi, hexec⟩ := h.host_step hb
    · exact honly a v n (Host.Outcome.next.inj (hnext.symm.trans hstep) ▸ hmem)
    · exact absurd (hr.symm.trans hstep) nofun
    · have hbus := (exec_effect (hexec.symm.trans hstep)).bus_of_host hi
      exact honly a v n (hbus ▸ hmem)

/-! ## The bounds of R362 point 6 -/

theorem run_succ {m : Nat} (h : step s = .next t) :
    Host.Core.run Sys2Proof.core (m + 1) s = Host.Core.run Sys2Proof.core m t := by
  simp [Host.Core.run, core, h]

theorem stepsLeft_pos (n : Nat) (s : State) (k : Nat) : 0 < stepsLeft n s k := by
  unfold stepsLeft pollLeft runsLeft
  split_ifs <;> omega

/-- A command ends within the steps that are left of it, since each step leaves fewer. -/
theorem ControlInv.ends_within {n : ℕ+} {m : Nat} (h : ControlInv s) (hb : s.busy = true) (hs : Stands s c k)
    (hlimit : s.cfg.pollLimit = some n) (hm : stepsLeft n s k ≤ m) :
    ∃ (j : Nat) (t : State), j ≤ m ∧ Host.Core.run Sys2Proof.core j s = .next t ∧ t.busy = false := by
  induction m generalizing s k with
  | zero => exact absurd (stepsLeft_pos n s k) (by omega)
  | succ m ih =>
    obtain ⟨i, t, log, -, -, hnext, hmoves⟩ := h.micro_step hb hs
    by_cases hend : t.busy = false
    · exact ⟨1, _, by omega, run_succ hnext, hend⟩
    · obtain ⟨v, hv, hsteps⟩ := hmoves.resolve_left hend
      have hcfg := (romAndParametersFixed _ _ hnext).2
      obtain ⟨j, t', hj, hrun, ht'⟩ := ih (controlInvariantKept _ _ h hnext) (Bool.not_eq_false _ ▸ hend)
        ⟨hv.upc, hv.cmd, hv.point.setUpc _ _⟩ (hcfg ▸ hlimit) (Nat.le_of_lt_succ ((hsteps n hlimit).trans_le hm))
      exact ⟨j + 1, t', by omega, (run_succ hnext).trans hrun, ht'⟩

theorem ControlInv.stands_at (h : ControlInv s) (hb : s.busy = true) (hu : s.upc = some u) :
    ∃ c, Stands s c u.toNat := by
  obtain ⟨v, c, hv, hc, hpoint⟩ := h.point hb
  obtain rfl : u = v := Option.some.inj (hu.symm.trans hv)
  exact ⟨c, by simp [hu], hc, hpoint⟩

/-- Settles O56: these are the steps left at 0x18. -/
theorem refreshEndsInBound : Obligations.RefreshEndsInBound := by
  intro s n h hb hu hlimit
  obtain ⟨c, hs⟩ := h.stands_at hb hu
  exact h.ends_within hb hs hlimit le_rfl

theorem stepsLeft_reset (n : Nat) (s : State) :
    stepsLeft n s 0x00 = 14 + 13 * s.cfg.primingCount.toNat + 3 * (s.cfg.primingCount.toNat + 1) * n := by
  simp only [stepsLeft, runsLeft, if_pos (Nat.zero_le _), Nat.add_sub_cancel_left]
  ring

/-- Settles O57: these are the steps left at 0x00. -/
theorem resetEndsInBound : Obligations.ResetEndsInBound := by
  refine ⟨fun s n h hb hu hlimit hcount => ?_, fun s n h hb hu hlimit => ?_⟩
  · obtain ⟨c, hs⟩ := h.stands_at hb hu
    refine h.ends_within hb hs hlimit (Eq.le ?_)
    rw [show (0x00 : Byte).toNat = 0x00 from rfl, stepsLeft_reset, hcount]
    rfl
  · obtain ⟨c, hs⟩ := h.stands_at hb hu
    exact h.ends_within hb hs hlimit (stepsLeft_reset n s).le

/-! ## A RESET that reads a wrong chip id (R341, R395) -/

section
variable {b : Bus} {a : BusAnswer} {rest : List BusAnswer} (h : b.script = a :: rest)
include h

theorem bindSlave_scripted (addr : BitVec 7) :
    (Bus.bindSlave addr b).1 = a.bindOk ∧ (Bus.bindSlave addr b).2.script = rest := by
  simp [Bus.bindSlave, Bus.draw, Bus.log, h]

theorem writeXfer_scripted (bytes : List Byte) :
    (Bus.writeXfer bytes b).1 = min a.accepted bytes.length ∧ (Bus.writeXfer bytes b).2.script = rest := by
  simp [Bus.writeXfer, Bus.draw, Bus.log, h]

theorem readXfer_scripted (n : Nat) : (Bus.readXfer n b).1 = a.bytes.take n := by
  simp [Bus.readXfer, Bus.draw, h]

end

/-- One micro-step of a run from a row of RESET's part. -/
theorem ControlInv.run_row (h : ControlInv s) (hb : s.busy = true) (hu : s.upc = some u)
    (hi : (u.toNat, i) ∈ Rom.resetPart s.cfg) (ht : exec i s = .next t) :
    ∃ log, ControlInv { t with observerLog := log } ∧
      ∀ m, Host.Core.run Sys2Proof.core (m + 1) s = Host.Core.run Sys2Proof.core m { t with observerLog := log } := by
  obtain ⟨c, hs⟩ := h.stands_at hb hu
  obtain ⟨log, hlog⟩ := h.step_row hb hs (List.mem_append_left _ (List.mem_append_left _ hi)) ht
  exact ⟨log, controlInvariantKept _ _ h hlog, fun _ => run_succ hlog⟩

/-- Settles O58: SETST, BIND, RD and CHKID, the first four rows. -/
theorem wrongChipIdWritesNothing : Obligations.WrongChipIdWritesNothing := by
  intro s a1 a2 a3 rest d ds h hb hu hscript hbind hsel hbytes hne
  obtain ⟨c, hs⟩ := h.stands_at hb hu
  have hcmd : s.cmd = some .reset := hs.point.owner.1 (by decide) ▸ hs.cmd
  obtain ⟨hok, hscript1⟩ := bindSlave_scripted hscript s.cfg.slaveAddr
  obtain ⟨hselect, hscript2⟩ := writeXfer_scripted hscript1 [s.cfg.regChipId]
  have hread := readXfer_scripted hscript2 1
  rw [hbind] at hok
  rw [List.length_singleton, min_eq_right hsel] at hselect
  rw [hbytes, List.take_succ_cons, List.take_zero] at hread
  have htrace : (Bus.readXfer 1 (Bus.writeXfer [s.cfg.regChipId] (Bus.bindSlave s.cfg.slaveAddr s.bus).2).2).2.trace =
      s.bus.trace ++ [.bind s.cfg.slaveAddr true, .write [s.cfg.regChipId] 1, .read 1 [d]] := by
    simp [readXfer_trace, writeXfer_trace, bindSlave_trace, hok, hselect, hread]
  obtain ⟨-, -, -, hbindDone, -⟩ := bindOperations
  obtain ⟨-, hrdDone, -⟩ := rdMicroOp
  obtain ⟨l1, h1, hrun1⟩ := h.run_row (i := .setst .resetting) hb hu (by simp [Rom.resetPart]) (advance_of hu)
  obtain ⟨l2, h2, hrun2⟩ := h1.run_row (u := 0x01) (i := .bind) hb rfl (by simp [Rom.resetPart])
    (hbindDone _ _ rfl hok)
  obtain ⟨l3, h3, hrun3⟩ := h2.run_row (u := 0x02) (i := .rd s.cfg.regChipId) hb rfl (by simp [Rom.resetPart])
    (hrdDone _ _ d _ rfl rfl hselect.ge hread)
  obtain ⟨l4, h4, hrun4⟩ := h3.run_row (u := 0x03) (i := .chkid s.cfg.chipIdExpected) hb rfl
    (by simp [Rom.resetPart]) (execChkid_of_other rfl hne hcmd)
  have hrun := (hrun1 3).trans ((hrun2 2).trans ((hrun3 1).trans (hrun4 0)))
  exact ⟨_, hrun, rfl, rfl, rfl, rfl, rfl, rfl, rfl, htrace⟩

end Sys2Proof.Machine
end

section
/-! Exceptions (60_exceptions.md): an error is raised by the abort of its command (R380) or is the answer of a command
before its time (R327, R385), and no run from a launch faults (R389, R442). -/

namespace Sys2Proof.Machine

variable {s : State}

/-! ## Errors (R380 to R385) -/

theorem readSample_of_invalid (hv : s.sampleValid = false) (code : Byte) (e : Element) (x : Option F64) :
    readSample code e x s = .next (notReady code s) := by
  simp [readSample, hv]

/-- Settles O13: the command finds BUSY = 0, and what it needs is missing. -/
theorem notReadyChangesErrorOnly : Obligations.NotReadyChangesErrorOnly := by
  refine ⟨rfl, fun s hb hlife => (whenIdle_of_idle hb _).trans (if_neg hlife), fun s hb hv => ?_⟩
  have hread (code : Byte) (e : Element) (x : Option F64) :
      whenIdle s (readSample code e x s) = .next (notReady code s) :=
    (whenIdle_of_idle hb _).trans (readSample_of_invalid hv code e x)
  exact ⟨hread _ _ _, hread _ _ _, hread _ _ _⟩

/-- Settles O24: the abort is that of the command in CMD. -/
theorem raiseAbortsTheCommand : Obligations.RaiseAbortsTheCommand :=
  ⟨fun _ _ hc => raiseError_of hc, fun _ _ hc => raiseError_of hc,
    fun _ _ _ _ => rfl, fun _ => rfl, fun _ _ => rfl, fun _ _ => rfl, fun _ => rfl⟩

/-! ## Runs from a launch (R389, R442) -/

/-- A launch starts UNINIT with BUSY = 0 and no sample, and its ROM is that of its parameters. -/
theorem controlInv_launch {p : BcbConfig} (hparams : romParams p) (commands : List Byte) (bus : Bus) :
    ControlInv (launch p commands bus) :=
  { params := hparams, rom := rfl, port := rfl, ready := nofun, sample := nofun, point := nofun }

theorem ControlInv.run_ne_fault (h : ControlInv s) (n : Nat) (f : Fault) :
    Host.Core.run Sys2Proof.core n s ≠ .fault f := by
  induction n generalizing s with
  | zero => exact nofun
  | succ n ih =>
    cases hstep : step s with
    | next t =>
      rw [run_succ hstep]
      exact ih (controlInvariantKept s t h hstep)
    | fault g => exact absurd hstep (noFaultUnderControlInvariant s g h)
    | refused r => simp [Host.Core.run, core, hstep]

/-- Settles O54: the control invariant holds at the launch and along the run. -/
theorem noFaultReachable : Obligations.NoFaultReachable :=
  fun _ commands bus n f hparams => (controlInv_launch hparams commands bus).run_ne_fault n f

end Sys2Proof.Machine
end

section
/-! The observer has no effect (60_exceptions.md R408): every operation commutes with turning the observer port off. -/

namespace Sys2Proof.Machine

variable {s t t' : State} {r r' q q' : Res} {α : Type}

/-- An outcome seen without the observer. -/
def resWithoutObserver : Res → Res
  | .next t => .next (withoutObserver t)
  | .fault f => .fault f
  | .refused q => .refused q

/-- A transaction's end seen without the observer. -/
def Tx.withoutObserver {α : Type} : Tx α → Tx α
  | .done v t => .done v (Machine.withoutObserver t)
  | .raised info t => .raised info (Machine.withoutObserver t)
  | .faulted f => .faulted f

/-! ## The shared operations

Each is given the two outcomes it goes on to, or the two states it starts from, one of them the other seen without the
observer. -/

theorem need_withoutObserver {e : Element} {x : Option α} {k k' : α → Res}
    (hk : ∀ v, k' v = resWithoutObserver (k v)) : need e x k' = resWithoutObserver (need e x k) := by
  cases x with
  | none => rfl
  | some v => exact hk v

theorem ite_withoutObserver {c : Prop} [Decidable c] (hr : r' = resWithoutObserver r)
    (hq : q' = resWithoutObserver q) : (if c then r' else q') = resWithoutObserver (if c then r else q) := by
  rw [hr, hq, apply_ite resWithoutObserver]

theorem advance_withoutObserver (ht : t' = withoutObserver t) : advance t' = resWithoutObserver (advance t) := by
  subst ht
  exact need_withoutObserver fun _ => rfl

theorem raiseError_withoutObserver (info : ErrInfo) (s : State) :
    raiseError info (withoutObserver s) = resWithoutObserver (raiseError info s) :=
  need_withoutObserver fun c => by cases c <;> rfl

theorem surfaceError_withoutObserver (info : ErrInfo) (s : State) :
    surfaceError info (withoutObserver s) = resWithoutObserver (surfaceError info s) :=
  ite_withoutObserver (raiseError_withoutObserver info s) rfl

/-! ## Transactions -/

theorem writeRegisterTx_withoutObserver (a v : Byte) (s : State) :
    writeRegisterTx a v (withoutObserver s) = (writeRegisterTx a v s).withoutObserver := by
  simp only [writeRegisterTx, apply_ite Tx.withoutObserver]
  rfl

theorem readTx_withoutObserver (kind : XferKind) (a : Byte) (n : Nat) (s : State) :
    readTx kind a n (withoutObserver s) = (readTx kind a n s).withoutObserver := by
  simp only [readTx, apply_ite Tx.withoutObserver]
  rfl

theorem bindTx_withoutObserver (s : State) : bindTx (withoutObserver s) = (bindTx s).withoutObserver := by
  simp only [bindTx, apply_ite Tx.withoutObserver]
  rfl

section
variable {x x' : Tx α} {k : α → State → Res} (hx : x' = x.withoutObserver)
  (hk : ∀ v t, k v (withoutObserver t) = resWithoutObserver (k v t))
include hx hk

theorem finish_withoutObserver : x'.finish k = resWithoutObserver (x.finish k) := by
  subst hx
  cases x with
  | done v t => exact hk v t
  | raised info t => exact raiseError_withoutObserver info t
  | faulted f => rfl

theorem runDirect_withoutObserver : runDirect x' k = resWithoutObserver (runDirect x k) := by
  subst hx
  cases x with
  | done v t => exact hk v t
  | raised info t => exact surfaceError_withoutObserver info t
  | faulted f => rfl

end

theorem runWrite_withoutObserver {x x' : Tx Unit} (hx : x' = x.withoutObserver) :
    runWrite x' = resWithoutObserver (runWrite x) :=
  runDirect_withoutObserver hx fun _ _ => rfl

theorem runRead_withoutObserver {x x' : Tx (List Byte)} (hx : x' = x.withoutObserver) :
    runRead x' = resWithoutObserver (runRead x) :=
  runDirect_withoutObserver hx fun _ _ => rfl

theorem runBurst_withoutObserver (a : Byte) (n : Nat) (s : State) :
    runBurst a n (withoutObserver s) = resWithoutObserver (runBurst a n s) :=
  ite_withoutObserver (runRead_withoutObserver (readTx_withoutObserver .burst a n s)) rfl

/-! ## The instructions, set by set -/

theorem readSample_withoutObserver (code : Byte) (e : Element) (x : Option F64) (s : State) :
    readSample code e x (withoutObserver s) = resWithoutObserver (readSample code e x s) :=
  ite_withoutObserver (need_withoutObserver fun _ => rfl) rfl

theorem whenIdle_withoutObserver (hr : r' = resWithoutObserver r) :
    whenIdle (withoutObserver s) r' = resWithoutObserver (whenIdle s r) :=
  ite_withoutObserver rfl hr

theorem pollAgain_withoutObserver (m l d : Byte) (s : State) :
    pollAgain m l d (withoutObserver s) = resWithoutObserver (pollAgain m l d s) := by
  rw [pollAgain, pollAgain, show (withoutObserver s).cfg.pollLimit = s.cfg.pollLimit from rfl]
  cases s.cfg.pollLimit with
  | none => rfl
  | some limit => exact need_withoutObserver fun _ => ite_withoutObserver (raiseError_withoutObserver _ s) rfl

theorem putBurst_withoutObserver (buf : BufId) (d : List Byte) (s : State) :
    (withoutObserver s).putBurst buf d = withoutObserver (s.putBurst buf d) := by
  cases buf <;> rfl

theorem exec_withoutObserver (i : Instr) (s : State) :
    exec i (withoutObserver s) = resWithoutObserver (exec i s) := by
  cases i with
  | reset => exact whenIdle_withoutObserver rfl
  | refresh => exact whenIdle_withoutObserver (ite_withoutObserver rfl rfl)
  | readT | readP | readH => exact whenIdle_withoutObserver (readSample_withoutObserver _ _ _ s)
  | writeRegister | wrSoftReset | wrCtrlHum | wrCtrlMeasCfg | wrConfig | wrCtrlMeasForced =>
    exact runWrite_withoutObserver (writeRegisterTx_withoutObserver _ _ s)
  | readRegister | rdChipId | rdStatus => exact runRead_withoutObserver (readTx_withoutObserver _ _ _ s)
  | readBlock | rdCal1 | rdCal2 | rdData => exact runBurst_withoutObserver _ _ s
  | bindSession => exact runWrite_withoutObserver (bindTx_withoutObserver s)
  | endCmd => rfl
  | bind => exact finish_withoutObserver (bindTx_withoutObserver s) fun _ _ => advance_withoutObserver rfl
  | wr a v =>
    exact finish_withoutObserver (writeRegisterTx_withoutObserver a v s) fun _ _ => advance_withoutObserver rfl
  | rd a =>
    exact finish_withoutObserver (readTx_withoutObserver .read a 1 s) fun _ _ => advance_withoutObserver rfl
  | rdb a n buf =>
    exact ite_withoutObserver
      (finish_withoutObserver (readTx_withoutObserver .burst a n.toNat s) fun d t =>
        advance_withoutObserver (putBurst_withoutObserver buf d t)) rfl
  | chkid v =>
    exact need_withoutObserver fun _ =>
      ite_withoutObserver (raiseError_withoutObserver _ s) (advance_withoutObserver rfl)
  | pinit | setst => exact advance_withoutObserver rfl
  | pwait => exact need_withoutObserver fun _ => advance_withoutObserver rfl
  | bbusy m l =>
    exact ite_withoutObserver
      (need_withoutObserver fun d =>
        ite_withoutObserver (advance_withoutObserver rfl) (pollAgain_withoutObserver m l d s)) rfl
  | call l => exact ite_withoutObserver (need_withoutObserver fun _ => rfl) rfl
  | ret => exact need_withoutObserver fun _ => rfl
  | pcal =>
    exact need_withoutObserver fun _ => need_withoutObserver fun _ => advance_withoutObserver rfl
  | chkrsv =>
    exact need_withoutObserver fun _ => need_withoutObserver fun _ =>
      ite_withoutObserver (raiseError_withoutObserver _ s) (advance_withoutObserver rfl)
  | decode =>
    exact need_withoutObserver fun _ => need_withoutObserver fun _ => need_withoutObserver fun _ =>
      need_withoutObserver fun _ => need_withoutObserver fun _ => need_withoutObserver fun _ =>
      need_withoutObserver fun _ => need_withoutObserver fun _ => advance_withoutObserver rfl
  | compt =>
    exact need_withoutObserver fun _ => need_withoutObserver fun _ => advance_withoutObserver rfl
  | compp | comph =>
    exact ite_withoutObserver
      (need_withoutObserver fun _ => need_withoutObserver fun _ => need_withoutObserver fun _ =>
        advance_withoutObserver rfl) rfl
  | commit =>
    exact need_withoutObserver fun _ => need_withoutObserver fun _ => need_withoutObserver fun _ =>
      advance_withoutObserver rfl

/-! ## The step -/

/-- What a fetch found, seen without the observer. -/
def Fetched.withoutObserver : Fetched → Fetched
  | .run i t watch => .run i (Machine.withoutObserver t) watch
  | .idle => .idle
  | .stop f => .stop f
  | .refuse r => .refuse r

theorem fetchMicro_withoutObserver (s : State) :
    fetchMicro (withoutObserver s) = (fetchMicro s).withoutObserver := by
  simp only [fetchMicro, Machine.withoutObserver]
  split
  · rfl
  · split
    · rfl
    · split <;> rfl

theorem fetchHost_withoutObserver (s : State) :
    fetchHost (withoutObserver s) = (fetchHost s).withoutObserver := by
  simp only [fetchHost, Machine.withoutObserver]
  split
  · rfl
  · split <;> rfl

theorem decodeWire_withoutObserver (s : State) (frames : List Frame) :
    decodeWire (withoutObserver s).cfg frames = decodeWire s.cfg frames := rfl

theorem fetchWire_withoutObserver (s : State) :
    fetchWire (withoutObserver s) = (fetchWire s).withoutObserver := by
  simp only [fetchWire, decodeWire_withoutObserver]
  simp only [Machine.withoutObserver]
  split <;> rfl

theorem fetch_withoutObserver (s : State) : fetch (withoutObserver s) = (fetch s).withoutObserver := by
  simp only [fetch, fetchWire_withoutObserver, fetchMicro_withoutObserver, fetchHost_withoutObserver,
    apply_ite Fetched.withoutObserver]
  rfl

/-- The event of a micro-step is all that an outcome keeps of the observer. -/
theorem resWithoutObserver_observed (before : State) (watch : Option (Byte × Byte)) (r : Res) :
    resWithoutObserver (observed before watch r) = resWithoutObserver r := by
  cases r with
  | next t =>
    obtain ⟨log, hlog⟩ := observe_eq before t watch
    simp only [observed, hlog]
    rfl
  | fault f => rfl
  | refused q => rfl

theorem step_withoutObserver (s : State) : step (withoutObserver s) = resWithoutObserver (step s) := by
  rw [step, step, fetch_withoutObserver]
  cases fetch s with
  | run i t watch =>
    calc observed (withoutObserver t) watch (exec i (withoutObserver t))
        = exec i (withoutObserver t) := observed_of_off rfl watch _
      _ = resWithoutObserver (exec i t) := exec_withoutObserver i t
      _ = resWithoutObserver (observed t watch (exec i t)) := (resWithoutObserver_observed t watch _).symm
  | idle | stop f | refuse r => rfl

/-- Settles O59: the step commutes with turning the observer port off. -/
theorem observerHasNoEffect : Obligations.ObserverHasNoEffect := by
  intro s
  rw [step_withoutObserver]
  exact ⟨fun _ h => congrArg resWithoutObserver h, fun _ h => congrArg resWithoutObserver h,
    fun _ h => congrArg resWithoutObserver h⟩

end Sys2Proof.Machine
end

section
/-! The control invariant at a launch (70_reset_and_hazards.md R442, 44_controller.md R362). -/

namespace Sys2Proof.Machine

/-- Settles O53: a launch claims neither a running command, nor a READY controller, nor a sample, so only the record,
the ROM and the empty bus port are left of the invariant. -/
theorem controlInvariantAtLaunch : Obligations.ControlInvariantAtLaunch :=
  fun _ commands bus hparams => controlInv_launch hparams commands bus

end Sys2Proof.Machine
end
